-- ==== Sys2Proof/Word.lean ====
section
/-! DEFINITION. The words the spec gives the block: bytes, int32 operands, 11-bit channel registers, tokens and response codes. -/

namespace Sys2Proof

/-- A byte, 0..255 (00_scope.md section 5). -/
abbrev Byte := BitVec 8

/-- A HOST_INT_BITS = 32 bit operand of a host command, two's complement (R61, R64). -/
abbrev Word32 := BitVec 32

/-- One channel register, CH_BITS = 11 bits (R11). -/
abbrev Chan := BitVec 11

/-- An opaque handler token, TOKEN_BITS = 32 bits (R16). -/
abbrev Token := BitVec 32

/-- A response code, int8, two's complement (R63). -/
abbrev Code := BitVec 8

/-- An operation word: one opcode byte and its operand bytes, delivered as one unit (R61). -/
abbrev OpWord := List Byte

end Sys2Proof
end

