-- ==== Sys2Proof/Config.lean ====
section
/-! DEFINITION. The configuration record `cfg` of R5, one field per row of its table. Its two named values (R7) stand in Machine/Defaults.lean, its constraints (R6) in Machine/Launch.lean. -/

namespace Sys2Proof

/-- The configuration record `cfg` (R5): a parameter of `Step`, constant over a run (R24 a, R53). -/
structure Cfg where
  /-- NCH, number of channels -/
  nch : Nat
  /-- CH_MIN, smallest legal channel value -/
  chMin : Nat
  /-- CH_MAX, largest legal channel value -/
  chMax : Nat
  /-- CH_CENTER, centre value -/
  chCenter : Nat
  /-- ARM_CH, zero-based index of the arm channel (90_conflicts.md C3) -/
  armCh : Nat
  /-- NKIND, number of telemetry kinds -/
  nkind : Nat
  rcOk : Code
  rcAlreadyInitialized : Code
  rcLinkStartFailure : Code
  rcLinkTimeout : Code
  rcConfigError : Code
  rcStateError : Code
  /-- CH_BITS, bits per channel in the packed payload -/
  chBits : Nat
  /-- TX_SYNC, first byte of an outbound frame -/
  txSync : Byte
  /-- RX_SYNC, sync byte searched for in the inbound stream -/
  rxSync : Byte
  typeRc : Byte
  typeGps : Byte
  typeBattery : Byte
  typeLinkstats : Byte
  typeAttitude : Byte
  minGps : Nat
  minBattery : Nat
  minLinkstats : Nat
  minAttitude : Nat
  /-- CRC_POLY, CRC-8 generator, x^8 term implied -/
  crcPoly : Byte
  crcInit : Byte
  lenMin : Nat
  lenMax : Nat
  /-- RX_BUF_MAX, capacity of the receive buffer in bytes -/
  rxBufMax : Nat
  armHigh : Nat
  armLow : Nat
  armThreshold : Nat
  /-- CNT_BITS, width of every event counter -/
  cntBits : Nat
  tokenBits : Nat
  hostIntBits : Nat
  /-- TX_PERIOD, ticks between two outbound frames: OPEN -/
  txPeriod : Nat
  /-- LINK_TIMEOUT, the link-activity window in ticks: OPEN -/
  linkTimeout : Nat
  /-- CONNECT_TIMEOUT, ticks the block waits in CONNECTING: OPEN -/
  connectTimeout : Nat
  /-- T_TICK, duration of one TICK in seconds: OPEN, used by no rule -/
  tTick : Rat
  deriving DecidableEq, Repr

end Sys2Proof
end

