-- ==== Sys2Proof/Syntax.lean ====
section
/-! DEFINITION. The operations and wire frames of spec/opcode_table.json as one inductive `Instr`, the output events of R62 with the telemetry records of R69 to R72, and why a word is refused. -/

namespace Sys2Proof

/-- The transport's answer to `open` (R79): UP = 0, DEVICE_UNAVAILABLE = 1, CONFIG_ERROR = 2. -/
inductive OpenResult where
  | up
  | deviceUnavailable
  | configError
  deriving DecidableEq, Repr

/-- The telemetry kinds (R79): LINKSTATS = 0, BATTERY = 1, GPS = 2, ATTITUDE = 3. -/
inductive Kind where
  | linkstats
  | battery
  | gps
  | attitude
  deriving DecidableEq, Repr

/-- A decoded telemetry record, exact integers in the order of R69 to R72 (R104: no floats). -/
inductive Record where
  /-- R69: rssi1, rssi2, lq, snr -/
  | linkStats (rssi1 rssi2 : Int) (lq : Nat) (snr : Int)
  /-- R70: voltage_raw (0.1 V), current_raw (0.1 A), remaining (percent) -/
  | battery (voltageRaw currentRaw remaining : Nat)
  /-- R71: lat_raw, lon_raw (10^-7 degree), alt_m, sats, gspd_raw (0.1 km/h) -/
  | gps (latRaw lonRaw altM : Int) (sats gspdRaw : Nat)
  /-- R72: pitch_raw, roll_raw, yaw_raw (10^-4 radian) -/
  | attitude (pitchRaw rollRaw yawRaw : Int)
  deriving DecidableEq, Repr

/-- The output events (R62); a step's outputs are an ordered list of these and no other. -/
inductive OutEvent where
  /-- RESP(c): the synchronous return of a host command -/
  | resp (c : Code)
  /-- RESP_BOOL(b): the return of IS_ACTIVE -/
  | respBool (b : Bool)
  /-- OPEN_REQ(port, baud): the call `open` on the transport -/
  | openReq (port : List Byte) (baud : Word32)
  /-- INIT_DONE(c): the deferred return of the accepted INIT -/
  | initDone (c : Code)
  /-- XPORT_CLOSE: the call `close` on the transport -/
  | xportClose
  /-- TX_FRAME(f): the call `write` on the transport with one outbound frame -/
  | txFrame (f : List Byte)
  /-- TLM(k, t, rec): the invocation of the handler registered for kind k -/
  | tlm (k : Kind) (t : Token) (r : Record)
  deriving DecidableEq, Repr

/-- The rows of spec/opcode_table.json: the 15 operations of R60, ILLEGAL, and the six wire frames of R67 to R73.
A wire frame as an instruction is the arrival of that frame, FEED of its bytes (R77; DESIGN CHOICE, log entry 8). -/
inductive Instr where
  | init (port : List Byte) (baud : Word32)
  | close
  | setAll (vs : List Word32)
  | setOne (index value : Word32)
  | arm
  | disarm
  | isActive
  /-- `present` and `token` as on the wire; the token is ignored when `present` is false (R129). -/
  | regLinkstats (present : Bool) (token : Token)
  | regBattery (present : Bool) (token : Token)
  | regGps (present : Bool) (token : Token)
  | regAttitude (present : Bool) (token : Token)
  | reset
  | openResult (r : OpenResult)
  | tick (wrOk : Bool)
  | rxByte (b : Byte)
  /-- a host word that is no command (R74, R134) -/
  | illegal (w : OpWord)
  /-- R67: the 16 channel values of the packed payload -/
  | frameRcChannels (ch : List Nat)
  /-- R71, with the heading field and any bytes after the layout, neither delivered -/
  | frameGps (lat lon : BitVec 32) (gspd heading alt : BitVec 16) (sats : Byte) (rest : List Byte)
  /-- R70, with the used-capacity field and any bytes after the layout, neither delivered -/
  | frameBattery (voltage current : BitVec 16) (capacity : BitVec 24) (remaining : Byte) (rest : List Byte)
  /-- R69; `rest` is data bytes 4 onward, not delivered -/
  | frameLinkstats (rssi1 rssi2 lq snr : Byte) (rest : List Byte)
  /-- R72, with any bytes after the layout -/
  | frameAttitude (pitch roll yaw : BitVec 16) (rest : List Byte)
  /-- R73: any other type byte, or a known type with too few data bytes -/
  | frameUnknown (ty : Byte) (data : List Byte)
  deriving DecidableEq, Repr

/-- Why the decoder refuses a word that is no operation (R74, U14). -/
inductive Reject where
  /-- no opcode byte at all (DEDUCED, safe; log entry 10) -/
  | emptyWord
  /-- bit 7 set and an opcode byte that is not 0x80 to 0x83 -/
  | eventOpcode (op : Byte)
  /-- an event word shorter or longer than its opcode's length in R61 -/
  | eventLength (op : Byte)
  /-- an event operand byte outside its listed values -/
  | eventOperand (op b : Byte)
  deriving DecidableEq, Repr

end Sys2Proof
end

