-- ==== Sys2Proof/Machine/Operands.lean ====
section
/-! DEFINITION. Operand forms: big-endian assembly of 16-, 24- and 32-bit fields and its inverse (R43, R61), the range test on signed operands (R64), the handler operand (R129), the numbers of kinds and OPEN_RESULT values (R79), and which host words are commands (R61, R74). -/

namespace Sys2Proof

/-- `be_16` of two bytes, the first the more significant. -/
def be16 (a b : Byte) : BitVec 16 := a ++ b

/-- `be_24` of three bytes. -/
def be24 (a b c : Byte) : BitVec 24 := a ++ b ++ c

/-- `be_32` of four bytes. -/
def be32 (a b c d : Byte) : BitVec 32 := a ++ b ++ c ++ d

/-- The two bytes of a 16-bit field, most significant first. -/
def bytes16 (v : BitVec 16) : List Byte := [v.extractLsb' 8 8, v.extractLsb' 0 8]

/-- The three bytes of a 24-bit field, most significant first. -/
def bytes24 (v : BitVec 24) : List Byte := [v.extractLsb' 16 8, v.extractLsb' 8 8, v.extractLsb' 0 8]

/-- The four bytes of a 32-bit operand, most significant first (R61). -/
def bytes32 (v : BitVec 32) : List Byte :=
  [v.extractLsb' 24 8, v.extractLsb' 16 8, v.extractLsb' 8 8, v.extractLsb' 0 8]

/-- `be_32` of a list of exactly four bytes. -/
def be32? : List Byte → Option (BitVec 32)
  | [a, b, c, d] => some (be32 a b c d)
  | _ => none

/-- The int32 operands of SET_ALL, four bytes each (R61). -/
def wordsBE : List Byte → List Word32
  | a :: b :: c :: d :: t => be32 a b c d :: wordsBE t
  | _ => []

/-- R64: the operand as a mathematical integer lies in [lo, hi]; nothing is truncated before the comparison. -/
def inRange (lo hi : Int) (v : Word32) : Bool := decide (lo ≤ v.toInt) && decide (v.toInt ≤ hi)

/-- The index operand of SET_ONE names a channel (R125). -/
def Cfg.indexOk (cfg : Cfg) (index : Word32) : Bool := inRange 0 ((cfg.nch : Int) - 1) index

/-- A channel value operand lies in [CH_MIN, CH_MAX] (R124, R125). -/
def Cfg.valueOk (cfg : Cfg) (value : Word32) : Bool := inRange cfg.chMin cfg.chMax value

/-- The handler operand of a registration command: SOME(token) if present = 1, else NONE (R129 to R132). -/
def handlerOf (present : Bool) (token : Token) : Option Token := if present then some token else none

/-- The `present` byte of a registration word: 0 or 1 (R61). -/
def boolOf (b : Byte) : Option Bool := if b = 0 then some false else if b = 1 then some true else none

/-- A Bool operand as its byte. -/
def boolByte (b : Bool) : Byte := if b then 1 else 0

/-- The number of a kind (R79). -/
def Kind.code : Kind → BitVec 8
  | .linkstats => 0
  | .battery => 1
  | .gps => 2
  | .attitude => 3

/-- The byte of an OPEN_RESULT operand (R61, R79). -/
def OpenResult.byte : OpenResult → Byte
  | .up => 0
  | .deviceUnavailable => 1
  | .configError => 2

/-- The OPEN_RESULT operand a byte stands for (R61, R79). -/
def OpenResult.ofByte (b : Byte) : Option OpenResult :=
  if b = 0 then some .up
  else if b = 1 then some .deviceUnavailable
  else if b = 2 then some .configError
  else none

/-- The word is one of the 11 host commands: its opcode is 0x01 to 0x0B, its length that of R61, and its `present`
byte, where it has one, 0 or 1. A host word for which this is false is ILLEGAL (R74). -/
def legalHostWord (w : OpWord) : Bool :=
  match w with
  | [] => false
  | op :: args =>
    match op.toNat with
    | 1 => match args with
      | n :: t => t.length == n.toNat + 4
      | [] => false
    | 3 => match args with
      | m :: t => t.length == 4 * m.toNat
      | [] => false
    | 4 => args.length == 8
    | 2 | 5 | 6 | 7 => args.isEmpty
    | 8 | 9 | 10 | 11 => args.length == 5 && decide ((args.headD 2).toNat < 2)
    | _ => false

/-- Bit 7 of the opcode byte is 0: a host command word (R61). -/
def isHostWord (w : OpWord) : Bool :=
  match w with
  | [] => false
  | op :: _ => !op.msb

end Sys2Proof
end

