-- ==== Sys2Proof/Machine/Codec.lean ====
section
/-! DEFINITION. The pure codec functions of 40_codec_functions.md: Crc8, PackChannels, UnpackChannels, EncodeRcFrame, EncodeFrame, FrameAt, Classify and the four record decoders. They read no state and write none. -/

namespace Sys2Proof

/-- One of the eight shifts of `Crc8Step`: out goes bit 7, and the generator is xored in when it was 1 (R90). -/
def crcShift (poly c : Byte) : Byte := if c.msb then (c <<< 1) ^^^ poly else c <<< 1

/-- `n` shifts. -/
def crcShifts (poly : Byte) : Nat → Byte → Byte
  | 0, c => c
  | n + 1, c => crcShifts poly n (crcShift poly c)

/-- `Crc8Step(c, b)` (R90): the byte is xored in, then eight shifts, most significant bit first (R44). -/
def crc8Step (poly c b : Byte) : Byte := crcShifts poly 8 (c ^^^ b)

/-- `Crc8(s)` (R90): the fold of `Crc8Step` over the bytes in order from CRC_INIT. -/
def crc8 (cfg : Cfg) (s : List Byte) : Byte := s.foldl (crc8Step cfg.crcPoly) cfg.crcInit

/-- `sum over i of ch[i] << (bits * i)` (R92). -/
def packAcc (bits : Nat) : List Nat → Nat
  | [] => 0
  | c :: cs => c + packAcc bits cs <<< bits

/-- The `n` low bytes of a natural, least significant first: byte k is bits 8k+7..8k (R92). -/
def leBytes : Nat → Nat → List Byte
  | 0, _ => []
  | n + 1, acc => BitVec.ofNat 8 acc :: leBytes n (acc >>> 8)

/-- `sum over k of d[k] << (8 * k)` (R93). -/
def unpackAcc : List Byte → Nat
  | [] => 0
  | b :: bs => b.toNat + unpackAcc bs <<< 8

/-- `n` fields of `bits` bits each, lowest first (R93). -/
def fieldsOf (bits : Nat) : Nat → Nat → List Nat
  | 0, _ => []
  | n + 1, acc => acc % 2 ^ bits :: fieldsOf bits n (acc >>> bits)

/-- Data bytes of the channel frame: NCH * CH_BITS bits, 22 bytes at the defaults (R42, R67). -/
def Cfg.packedLen (cfg : Cfg) : Nat := cfg.nch * cfg.chBits / 8

/-- `PackChannels(ch)` (R92), for entries below 2^CH_BITS. -/
def packChannels (cfg : Cfg) (ch : List Nat) : List Byte := leBytes cfg.packedLen (packAcc cfg.chBits ch)

/-- `UnpackChannels(d)` (R93); no operation of the block calls it. -/
def unpackChannels (cfg : Cfg) (d : List Byte) : List Nat := fieldsOf cfg.chBits cfg.nch (unpackAcc d)

/-- `EncodeFrame(sync, type, data)` (R96): sync, length byte, type, data, checksum over type and data (R65, R66). -/
def encodeFrame (cfg : Cfg) (sync ty : Byte) (data : List Byte) : List Byte :=
  sync :: BitVec.ofNat 8 (data.length + 2) :: ((ty :: data) ++ [crc8 cfg (ty :: data)])

/-- `EncodeRcFrame(ch)` (R95, R67). -/
def encodeRcFrame (cfg : Cfg) (ch : List Nat) : List Byte :=
  encodeFrame cfg cfg.txSync cfg.typeRc (packChannels cfg ch)

/-- The answers of `FrameAt` (R97). -/
inductive FrameStatus where
  | needMore
  | badSync
  | badLen
  | badCrc
  | valid (len : Nat)
  deriving DecidableEq, Repr

/-- `FrameAt(s)` (R97): sync, then length, then the wait for the whole candidate, then the checksum.
In the last two tests `body` is s[2..], so s[2..L+1) is its first L-1 bytes and s[L+1] the byte after them. -/
def frameAt (cfg : Cfg) (s : List Byte) : FrameStatus :=
  match s with
  | [] => .needMore
  | s0 :: t =>
    if s0 ≠ cfg.rxSync then .badSync
    else match t with
      | [] => .needMore
      | l :: body =>
        if l.toNat < cfg.lenMin ∨ cfg.lenMax < l.toNat then .badLen
        else if body.length < l.toNat then .needMore
        else if crc8 cfg (body.take (l.toNat - 1)) ≠ body.getD (l.toNat - 1) 0 then .badCrc
        else .valid l.toNat

/-- `DecodeLinkStats(d)` (R99). -/
def decodeLinkStats (d : List Byte) : Record :=
  .linkStats (d.getD 0 0).toInt (d.getD 1 0).toInt (d.getD 2 0).toNat (d.getD 3 0).toInt

/-- `DecodeBattery(d)` (R100): both 16-bit fields unsigned. -/
def decodeBattery (d : List Byte) : Record :=
  .battery (be16 (d.getD 0 0) (d.getD 1 0)).toNat (be16 (d.getD 2 0) (d.getD 3 0)).toNat (d.getD 7 0).toNat

/-- `DecodeGps(d)` (R101): the altitude is an integer subtraction and does not wrap (R103). -/
def decodeGps (d : List Byte) : Record :=
  .gps (be32 (d.getD 0 0) (d.getD 1 0) (d.getD 2 0) (d.getD 3 0)).toInt
    (be32 (d.getD 4 0) (d.getD 5 0) (d.getD 6 0) (d.getD 7 0)).toInt
    ((be16 (d.getD 12 0) (d.getD 13 0)).toNat - 1000 : Int)
    (d.getD 14 0).toNat
    (be16 (d.getD 8 0) (d.getD 9 0)).toNat

/-- `DecodeAttitude(d)` (R102). -/
def decodeAttitude (d : List Byte) : Record :=
  .attitude (be16 (d.getD 0 0) (d.getD 1 0)).toInt (be16 (d.getD 2 0) (d.getD 3 0)).toInt
    (be16 (d.getD 4 0) (d.getD 5 0)).toInt

/-- `Classify(type, d)` (R98): RECORD(k, rec) as `some (k, rec)`, IGNORED as `none`. -/
def classify (cfg : Cfg) (ty : Byte) (d : List Byte) : Option (Kind × Record) :=
  if ty = cfg.typeLinkstats ∧ cfg.minLinkstats ≤ d.length then some (.linkstats, decodeLinkStats d)
  else if ty = cfg.typeBattery ∧ cfg.minBattery ≤ d.length then some (.battery, decodeBattery d)
  else if ty = cfg.typeGps ∧ cfg.minGps ≤ d.length then some (.gps, decodeGps d)
  else if ty = cfg.typeAttitude ∧ cfg.minAttitude ≤ d.length then some (.attitude, decodeAttitude d)
  else none

end Sys2Proof
end

