-- ==== Sys2Proof/Decode.lean ====
section
/-! DEFINITION. The decoders (operation words of R61 and R74, wire frames of R65 to R73), total on any bytes and refusing by name, and after them the encoder of both. -/

namespace Sys2Proof

/-! ## Operation words -/

/-- INIT: n, port (n bytes), baud (int32). -/
def parseInit (args : List Byte) : Option Instr :=
  match args with
  | [] => none
  | n :: t => (be32? (t.drop n.toNat)).bind fun baud => if t.length = n.toNat + 4 then some (.init (t.take n.toNat) baud) else none

/-- SET_ALL: m, then m values (int32 each). -/
def parseSetAll (args : List Byte) : Option Instr :=
  match args with
  | [] => none
  | m :: t => if t.length = 4 * m.toNat then some (.setAll (wordsBE t)) else none

/-- SET_ONE: index (int32), value (int32). -/
def parseSetOne (args : List Byte) : Option Instr :=
  match args with
  | [a, b, c, d, e, f, g, h] => some (.setOne (be32 a b c d) (be32 e f g h))
  | _ => none

/-- A registration word: present, token (uint32). -/
def parseReg (mk : Bool → Token → Instr) (args : List Byte) : Option Instr :=
  match args with
  | [p, a, b, c, d] => (boolOf p).map fun present => mk present (be32 a b c d)
  | _ => none

/-- A command without operands. -/
def parseNone (i : Instr) (args : List Byte) : Option Instr := if args.isEmpty then some i else none

/-- The host command of an opcode byte and its operand bytes (R61); `none` is an illegal command (R74). -/
def parseHost (op : Byte) (args : List Byte) : Option Instr :=
  match op.toNat with
  | 0x01 => parseInit args
  | 0x02 => parseNone .close args
  | 0x03 => parseSetAll args
  | 0x04 => parseSetOne args
  | 0x05 => parseNone .arm args
  | 0x06 => parseNone .disarm args
  | 0x07 => parseNone .isActive args
  | 0x08 => parseReg .regLinkstats args
  | 0x09 => parseReg .regBattery args
  | 0x0A => parseReg .regGps args
  | 0x0B => parseReg .regAttitude args
  | _ => none

/-- The one operand byte of an event word. -/
def parseOperand (op : Byte) (args : List Byte) (read : Byte → Option Instr) : Except Reject Instr :=
  match args with
  | [b] => match read b with
    | some i => .ok i
    | none => .error (.eventOperand op b)
  | _ => .error (.eventLength op)

/-- The environment event of an opcode byte and its operand bytes; anything not listed is no operation (R74). -/
def parseEvent (op : Byte) (args : List Byte) : Except Reject Instr :=
  match op.toNat with
  | 0x80 => if args.isEmpty then .ok .reset else .error (.eventLength op)
  | 0x81 => parseOperand op args fun b => (OpenResult.ofByte b).map .openResult
  | 0x82 => parseOperand op args fun b => (boolOf b).map .tick
  | 0x83 => parseOperand op args fun b => some (.rxByte b)
  | _ => .error (.eventOpcode op)

/-- The decoder of operation words. Bit 7 of the opcode byte tells host command from event (R61); a host word that is no
command is ILLEGAL, an event word that is no operation is refused (R74). -/
def decodeWord (w : OpWord) : Except Reject Instr :=
  match w with
  | [] => .error .emptyWord
  | op :: args =>
    if op.msb then parseEvent op args
    else match parseHost op args with
      | some i => .ok i
      | none => .ok (.illegal w)

/-! ## Wire frames -/

/-- The frame row a type byte and data bytes belong to (R68, R73). A frame of TYPE_RC is FRAME_RC_CHANNELS only with
the packed length of R67 (DESIGN CHOICE, safe; log entry 9). -/
def frameOf (cfg : Cfg) (ty : Byte) (d : List Byte) : Instr :=
  if ty = cfg.typeLinkstats ∧ cfg.minLinkstats ≤ d.length then
    match d with
    | r1 :: r2 :: lq :: snr :: rest => .frameLinkstats r1 r2 lq snr rest
    | _ => .frameUnknown ty d
  else if ty = cfg.typeBattery ∧ cfg.minBattery ≤ d.length then
    match d with
    | v1 :: v0 :: c1 :: c0 :: u2 :: u1 :: u0 :: rem :: rest =>
      .frameBattery (be16 v1 v0) (be16 c1 c0) (be24 u2 u1 u0) rem rest
    | _ => .frameUnknown ty d
  else if ty = cfg.typeGps ∧ cfg.minGps ≤ d.length then
    match d with
    | a3 :: a2 :: a1 :: a0 :: o3 :: o2 :: o1 :: o0 :: g1 :: g0 :: h1 :: h0 :: t1 :: t0 :: sats :: rest =>
      .frameGps (be32 a3 a2 a1 a0) (be32 o3 o2 o1 o0) (be16 g1 g0) (be16 h1 h0) (be16 t1 t0) sats rest
    | _ => .frameUnknown ty d
  else if ty = cfg.typeAttitude ∧ cfg.minAttitude ≤ d.length then
    match d with
    | p1 :: p0 :: r1 :: r0 :: y1 :: y0 :: rest => .frameAttitude (be16 p1 p0) (be16 r1 r0) (be16 y1 y0) rest
    | _ => .frameUnknown ty d
  else if ty = cfg.typeRc ∧ d.length = cfg.packedLen then .frameRcChannels (unpackChannels cfg d)
  else .frameUnknown ty d

/-- The decoder of a wire frame: the bytes must be exactly one valid frame (R176). -/
def decodeFrame (cfg : Cfg) (bs : List Byte) : Option Instr :=
  match frameAt cfg bs with
  | .valid len => if bs.length = len + 2 then some (frameOf cfg (bs.getD 2 0) ((bs.drop 3).take (len - 2))) else none
  | _ => none

/-! ## The encoder -/

/-- The data bytes of a link statistics frame (R69). -/
def linkstatsData (r1 r2 lq snr : Byte) (rest : List Byte) : List Byte := r1 :: r2 :: lq :: snr :: rest

/-- The data bytes of a battery frame (R70). -/
def batteryData (voltage current : BitVec 16) (capacity : BitVec 24) (remaining : Byte) (rest : List Byte) : List Byte :=
  bytes16 voltage ++ bytes16 current ++ bytes24 capacity ++ remaining :: rest

/-- The data bytes of a GPS frame (R71). -/
def gpsData (lat lon : BitVec 32) (gspd heading alt : BitVec 16) (sats : Byte) (rest : List Byte) : List Byte :=
  bytes32 lat ++ bytes32 lon ++ bytes16 gspd ++ bytes16 heading ++ bytes16 alt ++ sats :: rest

/-- The data bytes of an attitude frame (R72). -/
def attitudeData (pitch roll yaw : BitVec 16) (rest : List Byte) : List Byte :=
  bytes16 pitch ++ bytes16 roll ++ bytes16 yaw ++ rest

/-- A registration word's operand bytes. -/
def regArgs (present : Bool) (token : Token) : List Byte := boolByte present :: bytes32 token

/-- An inbound frame starts with RX_SYNC (R65). -/
def inboundFrame (cfg : Cfg) (ty : Byte) (data : List Byte) : List Byte := encodeFrame cfg cfg.rxSync ty data

/-- The bytes of an instruction: the operation word of R61, or the inbound wire frame of R65. -/
def encode (cfg : Cfg) : Instr → List Byte
  | .init port baud => 0x01 :: BitVec.ofNat 8 port.length :: (port ++ bytes32 baud)
  | .close => [0x02]
  | .setAll vs => 0x03 :: BitVec.ofNat 8 vs.length :: vs.flatMap bytes32
  | .setOne index value => 0x04 :: (bytes32 index ++ bytes32 value)
  | .arm => [0x05]
  | .disarm => [0x06]
  | .isActive => [0x07]
  | .regLinkstats present token => 0x08 :: regArgs present token
  | .regBattery present token => 0x09 :: regArgs present token
  | .regGps present token => 0x0A :: regArgs present token
  | .regAttitude present token => 0x0B :: regArgs present token
  | .reset => [0x80]
  | .openResult r => [0x81, r.byte]
  | .tick wrOk => [0x82, boolByte wrOk]
  | .rxByte b => [0x83, b]
  | .illegal w => w
  | .frameRcChannels ch => inboundFrame cfg cfg.typeRc (packChannels cfg ch)
  | .frameGps lat lon gspd heading alt sats rest => inboundFrame cfg cfg.typeGps (gpsData lat lon gspd heading alt sats rest)
  | .frameBattery v c u r rest => inboundFrame cfg cfg.typeBattery (batteryData v c u r rest)
  | .frameLinkstats r1 r2 lq snr rest => inboundFrame cfg cfg.typeLinkstats (linkstatsData r1 r2 lq snr rest)
  | .frameAttitude p r y rest => inboundFrame cfg cfg.typeAttitude (attitudeData p r y rest)
  | .frameUnknown ty data => inboundFrame cfg ty data

/-! ## The opcode table's numbering -/

/-- The length in bytes of the operation word that starts with these bytes (R61), operand bytes not given counted as 0. -/
def wordLength (bs : List Byte) : Nat :=
  match (bs.headD 0).toNat with
  | 0x01 => 6 + (bs.getD 1 0).toNat
  | 0x03 => 2 + 4 * (bs.getD 1 0).toNat
  | 0x04 => 9
  | 0x08 | 0x09 | 0x0A | 0x0B => 6
  | 0x81 | 0x82 | 0x83 => 2
  | _ => 1

/-- The operation word of a table number: byte k is bits 8k+7..8k of `w`, and operand bytes above `nbits` are 0
(log entry 11). -/
def tableWord (nbits w : Nat) : OpWord :=
  let bs := leBytes (nbits / 8) w
  bs ++ List.replicate (wordLength bs - bs.length) 0

/-- The instruction the decoder reads from a table number; `none` where it refuses the word. -/
def decodeTableWord (nbits w : Nat) : Option Instr :=
  match decodeWord (tableWord nbits w) with
  | .ok i => some i
  | .error _ => none

end Sys2Proof
end

