-- ==== Sys2Proof/Machine/Defaults.lean ====
section
/-! DEFINITION. The two named configurations of R7: CFG_DEFAULT (the table of R5, the OPEN values left as arguments) and CFG_TEST. -/

namespace Sys2Proof

/-- CFG_DEFAULT (R5, R7): the OPEN tick counts and T_TICK are arguments.
UNVERIFIED (unsafe): the wire constants are the spec's own general-knowledge defaults (93 Part 2, log entry 14). -/
def Cfg.default (txPeriod linkTimeout connectTimeout : Nat) (tTick : Rat) : Cfg where
  nch := 16
  chMin := 0
  chMax := 1984
  chCenter := 992
  armCh := 4
  nkind := 4
  rcOk := 0x00
  rcAlreadyInitialized := 0xFF
  rcLinkStartFailure := 0xFE
  rcLinkTimeout := 0xFD
  rcConfigError := 0xFC
  rcStateError := 0xFB
  chBits := 11
  txSync := 0xC8
  rxSync := 0xC8
  typeRc := 0x16
  typeGps := 0x02
  typeBattery := 0x08
  typeLinkstats := 0x14
  typeAttitude := 0x1E
  minGps := 15
  minBattery := 8
  minLinkstats := 10
  minAttitude := 6
  crcPoly := 0xD5
  crcInit := 0x00
  lenMin := 2
  lenMax := 62
  rxBufMax := 64
  armHigh := 1984
  armLow := 0
  armThreshold := 992
  cntBits := 32
  tokenBits := 32
  hostIntBits := 32
  txPeriod := txPeriod
  linkTimeout := linkTimeout
  connectTimeout := connectTimeout
  tTick := tTick

/-- CFG_TEST (R7): TX_PERIOD = 4, LINK_TIMEOUT = 10, CONNECT_TIMEOUT = 5.
DESIGN CHOICE (safe, used by no rule): T_TICK = 1 second (log entry 5). -/
def Cfg.test : Cfg := Cfg.default 4 10 5 1

end Sys2Proof
end

