-- ==== Sys2Proof/Machine/State.lean ====
section
/-! DEFINITION. The state of the block (the tuple of R10), the machine state around it (configuration, input and output lists); the reasons a step can stop; the post-RESET state. -/

namespace Sys2Proof.Machine

/-- LSTATE (R14), read-only to the host. -/
inductive LState where
  | uninit
  | connecting
  | active
  | closed
  deriving DecidableEq, Repr

/-- The 2-bit encoding of LSTATE (R14). -/
def LState.code : LState → BitVec 2
  | .uninit => 0
  | .connecting => 1
  | .active => 2
  | .closed => 3

/-- INIT_RESULT (R15): how the most recent accepted INIT ended. -/
inductive InitResult where
  | none
  | ok
  | startFail
  | timeout
  deriving DecidableEq, Repr

/-- The 2-bit encoding of INIT_RESULT (R10). -/
def InitResult.code : InitResult → BitVec 2
  | .none => 0
  | .ok => 1
  | .startFail => 2
  | .timeout => 3

/-- SLOT[0..3] (R16): one handler register per kind, NONE or SOME(token). -/
structure Slots where
  linkstats : Option Token
  battery : Option Token
  gps : Option Token
  attitude : Option Token
  deriving DecidableEq, Repr

/-- RXBUF, the block's only memory (R17): a queue of bytes, head first, that no address reaches (R40; log entry 22). -/
abbrev Memory := List Byte

/-- The exceptions of R201; AlreadyInitialized is the StateError of INIT. -/
inductive BlockError where
  | alreadyInitialized
  | linkStartFailure
  | linkTimeout
  | configError
  | stateError
  deriving DecidableEq, Repr

/-- No step faults: `Step` is total on every decodable operation and every reachable state (93, end of Part 1), and an
error is a response code in a next state (R213). The type has no constructor (DEDUCED, safe; log entry 20). -/
inductive Fault
  deriving DecidableEq, Repr

/-- The inputs to which the spec gives no meaning. -/
inductive Refusal where
  /-- raised by an arm of `exec` whose instruction has no meaning yet; safe: no arm raises it -/
  | notModelled (mnemonic : String)
  /-- raised by `step` for a word the decoder refuses: the environment never produces it (R74, U14); safe -/
  | notAnOperation (r : Reject)
  /-- raised by `step` for a configuration that breaks R6 (U16); safe -/
  | badConfig
  /-- raised by `step` in a state outside the invariants of R27, which no run from RESET reaches (R231, U13, U18); safe -/
  | unreachableState
  deriving DecidableEq, Repr

/-- The complete state of the block: the tuple of R10 and nothing else. What R24 says is no state of the block stands
outside it: the configuration, the operands of INIT, wr_ok, output events, the last frame. -/
structure Block where
  lstate : LState
  initResult : InitResult
  ch : Vector Chan 16
  slots : Slots
  rxbuf : Memory
  rxAge : Nat
  txCnt : Nat
  connCnt : Nat
  cntTxframes : Nat
  cntTxerr : Nat
  cntRxvalid : Nat
  cntCrcerr : Nat
  cntLenerr : Nat
  cntOverflow : Nat
  cntIgnored : Nat
  deriving DecidableEq, Repr

/-- The host's machine state: the block, and beside it the three arguments and results of the spec's `Step` (R4) that the
host's `exec` and `step` have no other place for. `cfg` is the parameter of `Step` (log entry 4), `inbox` the operation
words not applied yet, oldest first (log entry 1), `outs` the output list of the step just taken (log entry 3). -/
structure State extends Block where
  cfg : Cfg
  inbox : List OpWord
  outs : List OutEvent
  deriving DecidableEq, Repr

/-- The post-RESET state of the block under a configuration (R25, R230). -/
def Block.postReset (cfg : Cfg) : Block where
  lstate := .uninit
  initResult := .none
  ch := Vector.replicate 16 (BitVec.ofNat 11 cfg.chCenter)
  slots := ⟨none, none, none, none⟩
  rxbuf := []
  rxAge := cfg.linkTimeout + 1
  txCnt := 0
  connCnt := 0
  cntTxframes := 0
  cntTxerr := 0
  cntRxvalid := 0
  cntCrcerr := 0
  cntLenerr := 0
  cntOverflow := 0
  cntIgnored := 0

/-- The block under a configuration with nothing in the inbox and no output: the arguments of `Step` before an operation. -/
def Block.under (b : Block) (cfg : Cfg) : State := { b with cfg := cfg, inbox := [], outs := [] }

/-- The post-RESET state of a configuration, with nothing in the inbox and no output. -/
def State.postReset (cfg : Cfg) : State := (Block.postReset cfg).under cfg

/-- The machine right after reset (R25). DESIGN CHOICE (unsafe): its configuration is CFG_TEST, the spec's own instance for
the OPEN values (R7; log entry 5). -/
def State.reset : State := State.postReset Cfg.test

end Sys2Proof.Machine
end

