-- ==== Sys2Proof/Machine/Ops.lean ====
section
/-! DEFINITION. The shared operations: output and counters, rejecting a command (`raise`), ConnReset, the channel store, the handler slots, the receive buffer, the framing loop, and fetching the next operation word. -/

namespace Sys2Proof.Machine

/-! ## Outputs and counters -/

/-- Every step starts with `outs = []` (00_scope.md section 5). -/
def State.begin (s : State) : State := { s with outs := [] }

/-- `emit EV(args)`: append to the step's output list. -/
def State.emit (s : State) (e : OutEvent) : State := { s with outs := s.outs ++ [e] }

/-- `sat_inc(C)`: saturating increment of a counter of `bits` bits (R23, R103). -/
def satInc (bits c : Nat) : Nat := min (c + 1) (2 ^ bits - 1)

/-- RESP(0), the answer of an accepted command (R63). -/
def State.respondOk (s : State) : State := s.emit (.resp s.cfg.rcOk)

/-! ## Rejecting a command: the block's exception (R200 to R213) -/

/-- `code(E)` (R201). -/
def BlockError.code (cfg : Cfg) : BlockError → Code
  | .alreadyInitialized => cfg.rcAlreadyInitialized
  | .linkStartFailure => cfg.rcLinkStartFailure
  | .linkTimeout => cfg.rcLinkTimeout
  | .configError => cfg.rcConfigError
  | .stateError => cfg.rcStateError

/-- `raise E`: no state element changes and the output list is exactly `[RESP(code(E))]` (R213). Nothing is saved, no mode
is entered, and there is no return operation (R215). -/
def State.raise (s : State) (e : BlockError) : State := { s with outs := [.resp (e.code s.cfg)] }

/-- The state test of the store and registry commands, made before any operand test (R203, R212). -/
def State.whenActive (s : State) (k : State → State) : State :=
  if s.lstate = .active then k s else s.raise .stateError

/-! ## Reset of the per-connection state -/

/-- `ConnReset()` (R26): the values of R25 for everything but LSTATE and INIT_RESULT. -/
def State.connReset (s : State) : State :=
  { s with
    ch := Vector.replicate 16 (BitVec.ofNat 11 s.cfg.chCenter)
    slots := ⟨none, none, none, none⟩
    rxbuf := []
    rxAge := s.cfg.linkTimeout + 1
    txCnt := 0
    connCnt := 0
    cntTxframes := 0
    cntTxerr := 0
    cntRxvalid := 0
    cntCrcerr := 0
    cntLenerr := 0
    cntOverflow := 0
    cntIgnored := 0 }

/-! ## The channel store (R11, R46, R47) -/

/-- `CH[i]`. -/
def State.readCh (s : State) (i : Nat) : Nat := (s.ch[i]?.getD 0).toNat

/-- `CH[i] <- v`: bits 10..0 of v are stored (R64). -/
def State.writeCh (s : State) (i v : Nat) : State := { s with ch := s.ch.setIfInBounds i (BitVec.ofNat 11 v) }

/-- All 16 registers in one step (R47). -/
def State.writeAll (s : State) (vs : List Word32) : State :=
  { s with ch := Vector.ofFn fun i : Fin 16 => (vs.getD i.val 0).setWidth 11 }

/-- The transmit snapshot: all 16 registers in one read (R47, R154). -/
def State.snapshot (s : State) : List Nat := s.ch.toList.map BitVec.toNat

/-! ## The handler slots (R16, R52) -/

/-- `SLOT[k]`. -/
def Slots.get (sl : Slots) : Kind → Option Token
  | .linkstats => sl.linkstats
  | .battery => sl.battery
  | .gps => sl.gps
  | .attitude => sl.attitude

/-- `SLOT[k] <- h`, the whole slot in one step (R52). -/
def Slots.set (sl : Slots) (k : Kind) (h : Option Token) : Slots :=
  match k with
  | .linkstats => { sl with linkstats := h }
  | .battery => { sl with battery := h }
  | .gps => { sl with gps := h }
  | .attitude => { sl with attitude := h }

/-- `RegSlot(k, h)` (R133). -/
def State.regSlot (s : State) (k : Kind) (h : Option Token) : State :=
  s.whenActive fun s => { s with slots := s.slots.set k h }.respondOk

/-! ## The receive buffer (R41) -/

/-- The form RXBUF always has: at most RX_BUF_MAX bytes (R17, R27 (2)). -/
def Memory.wf (cap : Nat) (m : Memory) : Bool := decide (m.length ≤ cap)

/-- `MemRead(a, 1)`: the byte at offset `a` from the head, none outside the buffer (R41). -/
def State.readRx (s : State) (a : Nat) : Option Byte := s.rxbuf[a]?

/-- `RxAppend(b)`. -/
def State.rxAppend (s : State) (b : Byte) : State := { s with rxbuf := s.rxbuf ++ [b] }

/-- `RxDrop(n)`. -/
def State.rxDrop (s : State) (n : Nat) : State := { s with rxbuf := s.rxbuf.drop n }

/-- `RxClear()`. -/
def State.rxClear (s : State) : State := { s with rxbuf := [] }

/-! ## The parser (R171 to R181) -/

/-- `Dispatch(k, rec)` (R181): the slot is read at the moment of dispatch. -/
def State.dispatch (s : State) (k : Kind) (r : Record) : State :=
  match s.slots.get k with
  | none => s
  | some t => s.emit (.tlm k t r)

/-- The last lines of `Accept` (R179): classify, then count as ignored or dispatch. -/
def State.deliver (s : State) (ty : Byte) (d : List Byte) : State :=
  match classify s.cfg ty d with
  | none => { s with cntIgnored := satInc s.cfg.cntBits s.cntIgnored }
  | some (k, r) => s.dispatch k r

/-- `Accept(L)` (R179): consume the L + 2 bytes of a valid frame at the head. -/
def State.accept (s : State) (len : Nat) : State :=
  let ty := s.rxbuf.getD 2 0
  let d := (s.rxbuf.drop 3).take (len - 2)
  { s.rxDrop (len + 2) with cntRxvalid := satInc s.cfg.cntBits s.cntRxvalid, rxAge := 0 }.deliver ty d

/-- `Drain()` (R173) for at most `n` passes. -/
def drainLoop : Nat → State → State
  | 0, s => s
  | n + 1, s =>
    match frameAt s.cfg s.rxbuf with
    | .needMore => s
    | .badSync => drainLoop n (s.rxDrop 1)
    | .badLen => drainLoop n { s.rxDrop 1 with cntLenerr := satInc s.cfg.cntBits s.cntLenerr }
    | .badCrc => drainLoop n { s.rxDrop 1 with cntCrcerr := satInc s.cfg.cntBits s.cntCrcerr }
    | .valid len => drainLoop n (s.accept len)

/-- `Drain()`: every pass but the last removes a byte, so len(RXBUF) + 1 passes suffice (R184; DEDUCED, log entry 21). -/
def State.drain (s : State) : State := drainLoop (s.rxbuf.length + 1) s

/-- The overflow test of `Feed` (R171, R172): a full buffer is emptied before the byte is appended. -/
def State.overflow (s : State) : State :=
  if s.cfg.rxBufMax ≤ s.rxbuf.length then
    { s.rxClear with cntOverflow := satInc s.cfg.cntBits s.cntOverflow }
  else s

/-- `Feed(b)` (R171). -/
def State.feed (s : State) (b : Byte) : State := (s.overflow.rxAppend b).drain

/-- The body of RX_BYTE (R170): outside ACTIVE the byte is dropped. -/
def State.receive (s : State) (b : Byte) : State := if s.lstate = .active then s.feed b else s

/-- FEED (R77): the bytes in order, one RX_BYTE each, their outputs in order. -/
def State.receiveAll (s : State) (bs : List Byte) : State := bs.foldl State.receive s

/-! ## Fetching the next operation -/

/-- The oldest operation word of the inbox and the state without it. -/
def State.fetch (s : State) : Option (OpWord × State) :=
  match s.inbox with
  | [] => none
  | w :: rest => some (w, { s with inbox := rest })

end Sys2Proof.Machine
end

