-- ==== Sys2Proof/Machine/Link.lean ====
section
/-! DEFINITION. The link life cycle: RESET (R120), INIT (R121), OPEN_RESULT (R122), CLOSE (R123). -/

namespace Sys2Proof.Machine

/-- RESET (R120): accepted in every state, emits nothing. -/
def execReset (s : State) : Host.Outcome State Fault Refusal :=
  .next { s.begin.connReset with lstate := .uninit, initResult := .none }

/-- INIT (R121): rejected in CONNECTING and ACTIVE; accepted, it answers by a later INIT_DONE. -/
def execInit (port : List Byte) (baud : Word32) (s : State) : Host.Outcome State Fault Refusal :=
  .next
    (if s.lstate = .connecting ∨ s.lstate = .active then s.begin.raise .alreadyInitialized
    else { s.begin.connReset with initResult := .none, lstate := .connecting }.emit (.openReq port baud))

/-- OPEN_RESULT (R122): resolves a pending INIT, ignored outside CONNECTING. -/
def execOpenResult (r : OpenResult) (s : State) : Host.Outcome State Fault Refusal :=
  .next
    (if s.lstate ≠ .connecting then s.begin
    else match r with
      | .up =>
        { s.begin with lstate := .active, initResult := .ok, txCnt := 0, rxAge := s.cfg.linkTimeout + 1 }.emit
          (.initDone s.cfg.rcOk)
      | .deviceUnavailable =>
        { s.begin with lstate := .closed, initResult := .startFail }.emit
          (.initDone (BlockError.linkStartFailure.code s.cfg))
      | .configError =>
        { s.begin with lstate := .closed, initResult := .startFail }.emit
          (.initDone (BlockError.linkStartFailure.code s.cfg)))

/-- CLOSE (R123): from ACTIVE it writes LSTATE only; elsewhere a no-op; always RESP(0). -/
def execClose (s : State) : Host.Outcome State Fault Refusal :=
  .next (if s.lstate = .active then { s.begin with lstate := .closed }.emit .xportClose else s.begin).respondOk

end Sys2Proof.Machine
end

