-- ==== Sys2Proof/Machine/Receive.lean ====
section
/-! DEFINITION. RX_BYTE (R170) and the arrival of a whole wire frame, FEED of its bytes (R77), for the six frame rows of the opcode table. -/

namespace Sys2Proof.Machine

/-- RX_BYTE (R170). -/
def execRxByte (b : Byte) (s : State) : Host.Outcome State Fault Refusal := .next (s.begin.receive b)

/-- FRAME_RC_CHANNELS (R67) arriving inbound: a valid frame of a type the parser does not decode (R73). Outbound it is
what TICK emits (R154). -/
def execFrameRcChannels (ch : List Nat) (s : State) : Host.Outcome State Fault Refusal :=
  .next (s.begin.receiveAll (inboundFrame s.cfg s.cfg.typeRc (packChannels s.cfg ch)))

/-- FRAME_GPS (R71) arriving. -/
def execFrameGps (lat lon : BitVec 32) (gspd heading alt : BitVec 16) (sats : Byte) (rest : List Byte) (s : State) :
    Host.Outcome State Fault Refusal :=
  .next (s.begin.receiveAll (inboundFrame s.cfg s.cfg.typeGps (gpsData lat lon gspd heading alt sats rest)))

/-- FRAME_BATTERY (R70) arriving. -/
def execFrameBattery (voltage current : BitVec 16) (capacity : BitVec 24) (remaining : Byte) (rest : List Byte)
    (s : State) : Host.Outcome State Fault Refusal :=
  .next (s.begin.receiveAll (inboundFrame s.cfg s.cfg.typeBattery (batteryData voltage current capacity remaining rest)))

/-- FRAME_LINKSTATS (R69) arriving. -/
def execFrameLinkstats (rssi1 rssi2 lq snr : Byte) (rest : List Byte) (s : State) : Host.Outcome State Fault Refusal :=
  .next (s.begin.receiveAll (inboundFrame s.cfg s.cfg.typeLinkstats (linkstatsData rssi1 rssi2 lq snr rest)))

/-- FRAME_ATTITUDE (R72) arriving. -/
def execFrameAttitude (pitch roll yaw : BitVec 16) (rest : List Byte) (s : State) : Host.Outcome State Fault Refusal :=
  .next (s.begin.receiveAll (inboundFrame s.cfg s.cfg.typeAttitude (attitudeData pitch roll yaw rest)))

/-- FRAME_UNKNOWN (R73) arriving: consumed and counted, no event. -/
def execFrameUnknown (ty : Byte) (data : List Byte) (s : State) : Host.Outcome State Fault Refusal :=
  .next (s.begin.receiveAll (inboundFrame s.cfg ty data))

end Sys2Proof.Machine
end

