-- ==== Sys2Proof/Machine/Registry.lean ====
section
/-! DEFINITION. Handler registration: REG_LINKSTATS (R129), REG_BATTERY (R130), REG_GPS (R131), REG_ATTITUDE (R132). -/

namespace Sys2Proof.Machine

/-- REG_LINKSTATS (R129). -/
def execRegLinkstats (present : Bool) (token : Token) (s : State) : Host.Outcome State Fault Refusal :=
  .next (s.begin.regSlot .linkstats (handlerOf present token))

/-- REG_BATTERY (R130). -/
def execRegBattery (present : Bool) (token : Token) (s : State) : Host.Outcome State Fault Refusal :=
  .next (s.begin.regSlot .battery (handlerOf present token))

/-- REG_GPS (R131). -/
def execRegGps (present : Bool) (token : Token) (s : State) : Host.Outcome State Fault Refusal :=
  .next (s.begin.regSlot .gps (handlerOf present token))

/-- REG_ATTITUDE (R132). -/
def execRegAttitude (present : Bool) (token : Token) (s : State) : Host.Outcome State Fault Refusal :=
  .next (s.begin.regSlot .attitude (handlerOf present token))

end Sys2Proof.Machine
end

