-- ==== Sys2Proof/Machine/Flags.lean ====
section
/-! DEFINITION. The derived flags: ARMED (R21), IS_ACTIVE (R22), and whether a telemetry event source is enabled (R210). They hold no storage. -/

namespace Sys2Proof.Machine

/-- ARMED (R21): CH[ARM_CH] > ARM_THRESHOLD, strict. -/
def State.armed (s : State) : Bool := decide (s.cfg.armThreshold < s.readCh s.cfg.armCh)

/-- IS_ACTIVE (R22): ACTIVE, and a valid frame within the window. -/
def State.isActive (s : State) : Bool := decide (s.lstate = .active) && decide (s.rxAge ≤ s.cfg.linkTimeout)

/-- The TLM source of kind k is enabled (R210): LSTATE is ACTIVE and the slot holds a token. -/
def State.tlmEnabled (s : State) (k : Kind) : Bool := decide (s.lstate = .active) && (s.slots.get k).isSome

end Sys2Proof.Machine
end

