-- ==== Sys2Proof/Machine/Status.lean ====
section
/-! DEFINITION. The status query IS_ACTIVE (R128) and the illegal command (R134). -/

namespace Sys2Proof.Machine

/-- IS_ACTIVE (R128): a pure query, accepted in every state. -/
def execIsActive (s : State) : Host.Outcome State Fault Refusal := .next (s.begin.emit (.respBool s.isActive))

/-- ILLEGAL (R134): ConfigError in every link state; the word is not looked at. -/
def execIllegal (s : State) : Host.Outcome State Fault Refusal := .next (s.begin.raise .configError)

end Sys2Proof.Machine
end

