-- ==== Sys2Proof/Machine/Store.lean ====
section
/-! DEFINITION. The channel store commands: SET_ALL (R124), SET_ONE (R125), ARM (R126), DISARM (R127). -/

namespace Sys2Proof.Machine

/-- SET_ALL (R124): state, then count, then every value; all 16 registers or none. -/
def execSetAll (vs : List Word32) (s : State) : Host.Outcome State Fault Refusal :=
  .next (s.begin.whenActive fun s =>
    if vs.length ≠ s.cfg.nch then s.raise .configError
    else if vs.all s.cfg.valueOk = false then s.raise .configError
    else (s.writeAll vs).respondOk)

/-- SET_ONE (R125): state, then index, then value. -/
def execSetOne (index value : Word32) (s : State) : Host.Outcome State Fault Refusal :=
  .next (s.begin.whenActive fun s =>
    if s.cfg.indexOk index = false then s.raise .configError
    else if s.cfg.valueOk value = false then s.raise .configError
    else (s.writeCh index.toNat value.toNat).respondOk)

/-- ARM (R126). -/
def execArm (s : State) : Host.Outcome State Fault Refusal :=
  .next (s.begin.whenActive fun s => (s.writeCh s.cfg.armCh s.cfg.armHigh).respondOk)

/-- DISARM (R127). -/
def execDisarm (s : State) : Host.Outcome State Fault Refusal :=
  .next (s.begin.whenActive fun s => (s.writeCh s.cfg.armCh s.cfg.armLow).respondOk)

end Sys2Proof.Machine
end

