-- ==== Sys2Proof/Machine/Transmit.lean ====
section
/-! DEFINITION. TICK (R150): the connect timeout (R151), the link-activity window (R152), and the rate-gated transmit scheduler (R153, R154). -/

namespace Sys2Proof.Machine

/-- `TickConnecting()` (R151). -/
def State.tickConnecting (s : State) : State :=
  if s.cfg.connectTimeout ≤ s.connCnt + 1 then
    ({ s with connCnt := s.connCnt + 1, lstate := .closed, initResult := .timeout }.emit .xportClose).emit
      (.initDone (BlockError.linkTimeout.code s.cfg))
  else { s with connCnt := s.connCnt + 1 }

/-- `TickAge()` (R152): saturating at LINK_TIMEOUT + 1. -/
def State.tickAge (s : State) : State := { s with rxAge := min (s.rxAge + 1) (s.cfg.linkTimeout + 1) }

/-- `Transmit(wr_ok)` (R154): snapshot, encode, write; the frame leaves whether or not the transport takes it. -/
def State.transmit (s : State) (wrOk : Bool) : State :=
  { s.emit (.txFrame (encodeRcFrame s.cfg s.snapshot)) with
    cntTxframes := satInc s.cfg.cntBits s.cntTxframes
    cntTxerr := if wrOk then s.cntTxerr else satInc s.cfg.cntBits s.cntTxerr }

/-- `TickTransmit(wr_ok)` (R153): the rate gate; the reload happens whether or not the write succeeded. -/
def State.tickTransmit (s : State) (wrOk : Bool) : State :=
  if s.txCnt = 0 then { s.transmit wrOk with txCnt := s.cfg.txPeriod - 1 }
  else { s with txCnt := s.txCnt - 1 }

/-- TICK (R150). -/
def execTick (wrOk : Bool) (s : State) : Host.Outcome State Fault Refusal :=
  .next (match s.lstate with
    | .uninit => s.begin
    | .closed => s.begin
    | .connecting => s.begin.tickConnecting
    | .active => s.begin.tickAge.tickTransmit wrOk)

end Sys2Proof.Machine
end

