-- ==== Sys2Proof/Machine/Dispatch.lean ====
section
/-! DEFINITION. One arm per constructor of `Instr`, each a direct call of its meaning. -/

namespace Sys2Proof.Machine

-- one arm per row of spec/opcode_table.json
def exec (i : Instr) (s : State) : Host.Outcome State Fault Refusal :=
  match i with
  | .init port baud => Sys2Proof.Machine.execInit port baud s
  | .close => Sys2Proof.Machine.execClose s
  | .setAll vs => Sys2Proof.Machine.execSetAll vs s
  | .setOne index value => Sys2Proof.Machine.execSetOne index value s
  | .arm => Sys2Proof.Machine.execArm s
  | .disarm => Sys2Proof.Machine.execDisarm s
  | .isActive => Sys2Proof.Machine.execIsActive s
  | .regLinkstats present token => Sys2Proof.Machine.execRegLinkstats present token s
  | .regBattery present token => Sys2Proof.Machine.execRegBattery present token s
  | .regGps present token => Sys2Proof.Machine.execRegGps present token s
  | .regAttitude present token => Sys2Proof.Machine.execRegAttitude present token s
  | .reset => Sys2Proof.Machine.execReset s
  | .openResult r => Sys2Proof.Machine.execOpenResult r s
  | .tick wrOk => Sys2Proof.Machine.execTick wrOk s
  | .rxByte b => Sys2Proof.Machine.execRxByte b s
  | .illegal _ => Sys2Proof.Machine.execIllegal s
  | .frameRcChannels ch => Sys2Proof.Machine.execFrameRcChannels ch s
  | .frameGps lat lon gspd heading alt sats rest => Sys2Proof.Machine.execFrameGps lat lon gspd heading alt sats rest s
  | .frameBattery voltage current capacity remaining rest => Sys2Proof.Machine.execFrameBattery voltage current capacity remaining rest s
  | .frameLinkstats rssi1 rssi2 lq snr rest => Sys2Proof.Machine.execFrameLinkstats rssi1 rssi2 lq snr rest s
  | .frameAttitude pitch roll yaw rest => Sys2Proof.Machine.execFrameAttitude pitch roll yaw rest s
  | .frameUnknown ty data => Sys2Proof.Machine.execFrameUnknown ty data s

end Sys2Proof.Machine
end

