-- ==== Sys2Proof/Machine/Launch.lean ====
section
/-! DEFINITION. The launch premises: the constraints on the configuration (R6) and the invariants that delimit the reachable states (R27, R231). -/

namespace Sys2Proof

/-- The constraints of R6, as that rule lists them. -/
def Cfg.meetsR6 (cfg : Cfg) : Bool :=
  decide (cfg.nch = 16 ∧ 0 = cfg.chMin ∧ cfg.chMin ≤ cfg.armLow ∧ cfg.armLow ≤ cfg.armThreshold ∧
    cfg.armThreshold < cfg.armHigh ∧ cfg.armHigh ≤ cfg.chMax ∧ cfg.chMax = 1984 ∧ 1984 < 2 ^ cfg.chBits ∧
    cfg.armCh < cfg.nch ∧ cfg.nch * cfg.chBits % 8 = 0 ∧
    [cfg.typeRc, cfg.typeGps, cfg.typeBattery, cfg.typeLinkstats, cfg.typeAttitude].Nodup ∧
    2 ≤ cfg.lenMin ∧ cfg.lenMin ≤ cfg.lenMax ∧ cfg.lenMax ≤ 255 ∧ 4 ≤ cfg.rxBufMax ∧
    1 ≤ cfg.txPeriod ∧ 1 ≤ cfg.connectTimeout ∧ 1 ≤ cfg.cntBits)

/-- What other rules fix or need of a configuration (DEDUCED, safe; log entry 6): the fields R5 marks "source", the 32-bit
operands and tokens of R61, least data counts that cover the bytes each decoder reads (R99 to R102), and a channel
frame whose length fits the length byte (R66). -/
def Cfg.meetsLayout (cfg : Cfg) : Bool :=
  decide (cfg.armCh = 4 ∧ cfg.chCenter = 992 ∧ cfg.nkind = 4 ∧ cfg.rcOk = 0 ∧ cfg.rcAlreadyInitialized = 0xFF ∧
    cfg.rcLinkStartFailure = 0xFE ∧ cfg.rcLinkTimeout = 0xFD ∧ cfg.hostIntBits = 32 ∧ cfg.tokenBits = 32 ∧
    4 ≤ cfg.minLinkstats ∧ 8 ≤ cfg.minBattery ∧ 15 ≤ cfg.minGps ∧ 6 ≤ cfg.minAttitude ∧ cfg.packedLen + 2 ≤ 255)

/-- A configuration the block is given a meaning for (R6, U16). -/
def Cfg.wf (cfg : Cfg) : Bool := cfg.meetsR6 && cfg.meetsLayout

namespace Machine

/-- R27 (1) to (3) and the widths of R10: every element inside its legal values. -/
def State.inWidths (s : State) : Bool :=
  s.ch.toList.all (fun c => decide (c.toNat ≤ s.cfg.chMax)) &&
  [s.cntTxframes, s.cntTxerr, s.cntRxvalid, s.cntCrcerr, s.cntLenerr, s.cntOverflow, s.cntIgnored].all
    (fun c => decide (c ≤ 2 ^ s.cfg.cntBits - 1)) &&
  decide (Memory.wf s.cfg.rxBufMax s.rxbuf = true ∧ s.rxAge ≤ s.cfg.linkTimeout + 1 ∧ s.txCnt ≤ s.cfg.txPeriod - 1 ∧
    s.connCnt ≤ s.cfg.connectTimeout)

/-- R27 (4) to (6): what each link state says about the rest. -/
def State.linkConsistent (s : State) : Bool :=
  match s.lstate with
  | .connecting => decide (s.initResult = .none ∧ s.connCnt < s.cfg.connectTimeout)
  | .active => decide (s.initResult = .ok)
  | .uninit => decide (s.initResult = .none ∧ s.connReset = s)
  | .closed => true

/-- R27 (7): RXBUF is empty or starts with RX_SYNC. -/
def State.headOk (s : State) : Bool :=
  match s.rxbuf with
  | [] => true
  | b :: _ => b == s.cfg.rxSync

/-- The invariants of R27, which delimit the reachable states (R231; log entry 7). -/
def State.legal (s : State) : Bool := s.inWidths && s.linkConsistent && s.headOk

end Machine

end Sys2Proof
end

