-- ==== Sys2Proof/Machine/Step.lean ====
section
/-! DEFINITION. One step of the block: the oldest operation word of the inbox is taken, decoded and executed. -/

namespace Sys2Proof.Machine

/-- `Step(cfg, state, op)` (R4) with the next word of the inbox as `op`. A configuration that breaks R6 and a state that no
run reaches are refused (U16, U13); a word that is no operation is refused (U14); with no word the block waits (R230;
DEDUCED, safe; log entry 2). -/
def step (s : State) : Host.Outcome State Fault Refusal :=
  if s.cfg.wf = false then .refused .badConfig
  else if s.legal = false then .refused .unreachableState
  else match s.fetch with
    | none => .next s.begin
    | some (w, rest) => match decodeWord w with
      | .ok i => exec i rest
      | .error r => .refused (.notAnOperation r)

/-- The word of a table number put where `step` takes its next operation: first in the inbox (log entry 1). -/
def State.withFetchWord (s : State) (nbits w : Nat) : State := { s with inbox := tableWord nbits w :: s.inbox }

end Sys2Proof.Machine
end

