-- ==== Sys2Proof/Machine/Trace.lean ====
section
/-! DEFINITION. The spec's `Step` over the block alone (R4, R24), runs of operations (R244), the pseudo-operations FEED, TICKS and 16x (R77), and the trace notation (R76). -/

namespace Sys2Proof.Machine

/-- `Step(cfg, state, op) = (state', outs)` as R4 has it: over the block alone, with the configuration a parameter and the
outputs beside the state (R24). The last two arms are never taken: every instruction answers a next state. -/
def blockStep (cfg : Cfg) (b : Block) (i : Instr) : Block × List OutEvent :=
  match exec i (b.under cfg) with
  | .next t => (t.toBlock, t.outs)
  | .fault _ => (b, [])
  | .refused _ => (b, [])

/-- A run of operations from a state: the final state and the concatenation of the outputs of all steps (R244); `none` if
one stops, which no operation does. -/
def runOps : List Instr → State → Option (State × List OutEvent)
  | [], s => some (s, [])
  | i :: is, s =>
    match exec i s with
    | .next t => (runOps is t).map fun r => (r.1, t.outs ++ r.2)
    | .fault _ => none
    | .refused _ => none

/-- `FEED b0 b1 ... bn`: one RX_BYTE per byte. -/
def feedOps (bs : List Byte) : List Instr := bs.map .rxByte

/-- `TICKS n`: n times `TICK ok`. -/
def ticksOps (n : Nat) : List Instr := List.replicate n (.tick true)

/-- `SET_ALL 16xv`. -/
def setAllSame (v : Word32) : Instr := .setAll (List.replicate 16 v)

/-! ## Trace notation -/

/-- A byte as a hex pair. -/
def hexByte (b : Byte) : String :=
  String.ofList [Nat.digitChar (b.toNat / 16) |>.toUpper, Nat.digitChar (b.toNat % 16) |>.toUpper]

/-- Bytes as hex pairs with a space between. -/
def hexBytes (bs : List Byte) : String := String.intercalate " " (bs.map hexByte)

/-- A token: 0x and eight hex digits. -/
def hexToken (t : Token) : String := "0x" ++ String.join ((bytes32 t).map hexByte)

/-- A port: its bytes as characters, in quotes. -/
def portText (port : List Byte) : String := "\"" ++ String.ofList (port.map fun b => Char.ofNat b.toNat) ++ "\""

/-- A registration operand: the token, or none. -/
def handlerText (present : Bool) (token : Token) : String := if present then hexToken token else "none"

/-- An operation in trace notation (R76), a wire frame as the FEED of its bytes (R77). -/
def traceLine (cfg : Cfg) (i : Instr) : String :=
  match i with
  | .init port baud => "INIT " ++ portText port ++ " " ++ toString baud.toInt
  | .close => "CLOSE"
  | .setAll vs => String.intercalate " " ("SET_ALL" :: vs.map fun v => toString v.toInt)
  | .setOne index value => "SET_ONE " ++ toString index.toInt ++ " " ++ toString value.toInt
  | .arm => "ARM"
  | .disarm => "DISARM"
  | .isActive => "IS_ACTIVE"
  | .regLinkstats present token => "REG_LINKSTATS " ++ handlerText present token
  | .regBattery present token => "REG_BATTERY " ++ handlerText present token
  | .regGps present token => "REG_GPS " ++ handlerText present token
  | .regAttitude present token => "REG_ATTITUDE " ++ handlerText present token
  | .reset => "RESET"
  | .openResult .up => "OPEN_RESULT UP"
  | .openResult .deviceUnavailable => "OPEN_RESULT DEVICE_UNAVAILABLE"
  | .openResult .configError => "OPEN_RESULT CONFIG_ERROR"
  | .tick wrOk => if wrOk then "TICK ok" else "TICK fail"
  | .rxByte b => "RXB " ++ hexByte b
  | .illegal w => hexBytes w
  | .frameRcChannels ch => "FEED " ++ hexBytes (encode cfg (.frameRcChannels ch))
  | .frameGps lat lon gspd heading alt sats rest => "FEED " ++ hexBytes (encode cfg (.frameGps lat lon gspd heading alt sats rest))
  | .frameBattery v c u r rest => "FEED " ++ hexBytes (encode cfg (.frameBattery v c u r rest))
  | .frameLinkstats r1 r2 lq snr rest => "FEED " ++ hexBytes (encode cfg (.frameLinkstats r1 r2 lq snr rest))
  | .frameAttitude p r y rest => "FEED " ++ hexBytes (encode cfg (.frameAttitude p r y rest))
  | .frameUnknown ty data => "FEED " ++ hexBytes (encode cfg (.frameUnknown ty data))

/-- A record as `field=value` pairs (R76). -/
def recordText : Record → String
  | .linkStats r1 r2 lq snr =>
    "rssi1=" ++ toString r1 ++ " rssi2=" ++ toString r2 ++ " lq=" ++ toString lq ++ " snr=" ++ toString snr
  | .battery v c r => "voltage_raw=" ++ toString v ++ " current_raw=" ++ toString c ++ " remaining=" ++ toString r
  | .gps lat lon alt sats gspd =>
    "lat_raw=" ++ toString lat ++ " lon_raw=" ++ toString lon ++ " alt_m=" ++ toString alt ++ " sats=" ++ toString sats ++
      " gspd_raw=" ++ toString gspd
  | .attitude p r y => "pitch_raw=" ++ toString p ++ " roll_raw=" ++ toString r ++ " yaw_raw=" ++ toString y

/-- An output event in trace notation (R62, R76). -/
def eventText : OutEvent → String
  | .resp c => "RESP(" ++ toString c.toInt ++ ")"
  | .respBool b => "RESP_BOOL(" ++ toString b ++ ")"
  | .openReq port baud => "OPEN_REQ(" ++ portText port ++ ", " ++ toString baud.toInt ++ ")"
  | .initDone c => "INIT_DONE(" ++ toString c.toInt ++ ")"
  | .xportClose => "XPORT_CLOSE"
  | .txFrame f => "TX_FRAME(" ++ hexBytes f ++ ")"
  | .tlm k t r => "TLM(" ++ toString k.code.toNat ++ ", " ++ hexToken t ++ ", " ++ recordText r ++ ")"

end Sys2Proof.Machine
end

