-- ==== Sys2Proof/Safety.lean ====
section
/-! DEFINITION. What claims speak of: the transition table of the link state machine (R135), a settled parser (R171), how many ticks and outbound frames a run holds, and which commands StateError guards. -/

namespace Sys2Proof.Machine

/-- The transition table of R135: for a listed (state, operation) pair with its condition, the state after and the outputs;
`none` for a pair that is not listed. -/
def linkRow (i : Instr) (s : State) : Option (LState × List OutEvent) :=
  match i, s.lstate with
  | .reset, _ => some (.uninit, [])
  | .init port baud, .uninit => some (.connecting, [.openReq port baud])
  | .init port baud, .closed => some (.connecting, [.openReq port baud])
  | .openResult .up, .connecting => some (.active, [.initDone s.cfg.rcOk])
  | .openResult .deviceUnavailable, .connecting => some (.closed, [.initDone s.cfg.rcLinkStartFailure])
  | .openResult .configError, .connecting => some (.closed, [.initDone s.cfg.rcLinkStartFailure])
  | .tick _, .connecting =>
    if s.connCnt + 1 = s.cfg.connectTimeout then some (.closed, [.xportClose, .initDone s.cfg.rcLinkTimeout]) else none
  | .close, .active => some (.closed, [.xportClose, .resp s.cfg.rcOk])
  | _, _ => none

/-- The parser is settled (R171): RXBUF holds no complete frame and no byte that could have been discarded. -/
def State.settled (s : State) : Bool := frameAt s.cfg s.rxbuf == .needMore

/-- The event is an outbound frame. -/
def isTxFrame : OutEvent → Bool
  | .txFrame _ => true
  | _ => false

/-- How many outbound frames an output list holds. -/
def countTx (outs : List OutEvent) : Nat := outs.countP isTxFrame

/-- The operation is a TICK. -/
def isTick : Instr → Bool
  | .tick _ => true
  | _ => false

/-- How many TICK operations a run holds. -/
def countTicks (is : List Instr) : Nat := is.countP isTick

/-- The store and registry commands, which StateError guards (R203). -/
def needsActive : Instr → Bool
  | .setAll _ => true
  | .setOne _ _ => true
  | .arm => true
  | .disarm => true
  | .regLinkstats _ _ => true
  | .regBattery _ _ => true
  | .regGps _ _ => true
  | .regAttitude _ _ => true
  | .init _ _ => false
  | .close => false
  | .isActive => false
  | .reset => false
  | .openResult _ => false
  | .tick _ => false
  | .rxByte _ => false
  | .illegal _ => false
  | .frameRcChannels _ => false
  | .frameGps _ _ _ _ _ _ _ => false
  | .frameBattery _ _ _ _ _ => false
  | .frameLinkstats _ _ _ _ _ => false
  | .frameAttitude _ _ _ _ => false
  | .frameUnknown _ _ => false

end Sys2Proof.Machine
end

