-- ==== Sys2Proof/WellFormed.lean ====
section
/-! DEFINITION. Which instructions have an encoding: operand counts that fit their count byte, ILLEGAL only for a word that is no command, and frame rows only for data the row admits. -/

namespace Sys2Proof

/-- A frame with `n` data bytes has a legal length byte (R66). -/
def Cfg.frameLenOk (cfg : Cfg) (n : Nat) : Bool := decide (cfg.lenMin ≤ n + 2 ∧ n + 2 ≤ cfg.lenMax)

/-- The type byte and data bytes belong to no row but FRAME_UNKNOWN (R68, R73). -/
def Cfg.unknownFrame (cfg : Cfg) (ty : Byte) (n : Nat) : Bool :=
  decide (¬(ty = cfg.typeLinkstats ∧ cfg.minLinkstats ≤ n) ∧ ¬(ty = cfg.typeBattery ∧ cfg.minBattery ≤ n) ∧
    ¬(ty = cfg.typeGps ∧ cfg.minGps ≤ n) ∧ ¬(ty = cfg.typeAttitude ∧ cfg.minAttitude ≤ n) ∧
    ¬(ty = cfg.typeRc ∧ n = cfg.packedLen))

/-- An instruction that some word or frame encodes, under a configuration. -/
def Instr.wf (cfg : Cfg) : Instr → Bool
  | .init port _ => decide (port.length ≤ 255)
  | .setAll vs => decide (vs.length ≤ 255)
  | .illegal w => isHostWord w && !legalHostWord w
  | .frameRcChannels ch =>
    decide (ch.length = cfg.nch) && ch.all (fun c => decide (c < 2 ^ cfg.chBits)) && cfg.frameLenOk cfg.packedLen
  | .frameGps _ _ _ _ _ _ rest => decide (cfg.minGps ≤ 15 + rest.length) && cfg.frameLenOk (15 + rest.length)
  | .frameBattery _ _ _ _ rest => decide (cfg.minBattery ≤ 8 + rest.length) && cfg.frameLenOk (8 + rest.length)
  | .frameLinkstats _ _ _ _ rest => decide (cfg.minLinkstats ≤ 4 + rest.length) && cfg.frameLenOk (4 + rest.length)
  | .frameAttitude _ _ _ rest => decide (cfg.minAttitude ≤ 6 + rest.length) && cfg.frameLenOk (6 + rest.length)
  | .frameUnknown ty data => cfg.unknownFrame ty data.length && cfg.frameLenOk data.length
  | .close => true
  | .setOne _ _ => true
  | .arm => true
  | .disarm => true
  | .isActive => true
  | .regLinkstats _ _ => true
  | .regBattery _ _ => true
  | .regGps _ _ => true
  | .regAttitude _ _ => true
  | .reset => true
  | .openResult _ => true
  | .tick _ => true
  | .rxByte _ => true

/-- The instruction is an operation of R60 or ILLEGAL, not a wire frame. -/
def Instr.isOperation : Instr → Bool
  | .frameRcChannels _ => false
  | .frameGps _ _ _ _ _ _ _ => false
  | .frameBattery _ _ _ _ _ => false
  | .frameLinkstats _ _ _ _ _ => false
  | .frameAttitude _ _ _ _ => false
  | .frameUnknown _ _ => false
  | .init _ _ => true
  | .setAll _ => true
  | .illegal _ => true
  | .close => true
  | .setOne _ _ => true
  | .arm => true
  | .disarm => true
  | .isActive => true
  | .regLinkstats _ _ => true
  | .regBattery _ _ => true
  | .regGps _ _ => true
  | .regAttitude _ _ => true
  | .reset => true
  | .openResult _ => true
  | .tick _ => true
  | .rxByte _ => true

end Sys2Proof
end

