-- ==== Sys2Proof/Certificates/Slice0/Obligations.lean ====
section
/-! DEFINITION. The statements for the provers, from the numbered rules of spec/. Each docstring names the rule, or says that the rule is the spec's own inference or that the clause is the model's choice with its log entry. -/

open Sys2Proof Sys2Proof.Machine

/-! ## Reset and launch -/

/-- R120 (values of R25): RESET is accepted in every state, gives every element its reset value and emits nothing. ARMED is
false for an arm threshold of at least 992, as R5's is (log entry 15). `cfg` and `inbox`, the model's own fields, are kept. -/
def Obligations.ResetGivesThePostResetState : Prop :=
  ∀ s : State, s.cfg.wf = true →
    exec .reset s = .next
      { cfg := s.cfg, inbox := s.inbox, outs := [], lstate := .uninit, initResult := .none,
        ch := Vector.replicate 16 992, slots := ⟨none, none, none, none⟩, rxbuf := [],
        rxAge := s.cfg.linkTimeout + 1, txCnt := 0, connCnt := 0, cntTxframes := 0, cntTxerr := 0, cntRxvalid := 0,
        cntCrcerr := 0, cntLenerr := 0, cntOverflow := 0, cntIgnored := 0 } ∧
    ∀ t, exec .reset s = .next t → t.isActive = false ∧ (992 ≤ s.cfg.armThreshold → t.armed = false)

/-- The invariants of R27 (the spec's own inference) and a settled parser hold in the post-RESET state of every
configuration; State.reset is that of CFG_TEST (the model's choice, log entry 5). -/
def Obligations.PostResetStateIsLegal : Prop :=
  (∀ cfg : Cfg, cfg.wf = true → (State.postReset cfg).legal = true ∧ (State.postReset cfg).settled = true ∧
    (State.postReset cfg).inbox = [] ∧ (State.postReset cfg).outs = []) ∧
  State.reset = State.postReset Cfg.test ∧ Cfg.test.wf = true

/-! ## Link life cycle -/

/-- R121: accepted in UNINIT and CLOSED with all per-connection state reset, rejected with -1 and no change elsewhere. ARMED is
false for an arm threshold of at least 992, as R5's is (log entry 15). -/
def Obligations.InitOpensOrIsRejected : Prop :=
  ∀ (port : List Byte) (baud : Word32) (s : State), s.cfg.wf = true →
    (s.lstate = .uninit ∨ s.lstate = .closed →
      exec (.init port baud) s = .next
        { cfg := s.cfg, inbox := s.inbox, outs := [.openReq port baud], lstate := .connecting, initResult := .none,
          ch := Vector.replicate 16 992, slots := ⟨none, none, none, none⟩, rxbuf := [],
          rxAge := s.cfg.linkTimeout + 1, txCnt := 0, connCnt := 0, cntTxframes := 0, cntTxerr := 0, cntRxvalid := 0,
          cntCrcerr := 0, cntLenerr := 0, cntOverflow := 0, cntIgnored := 0 } ∧
      ∀ t, exec (.init port baud) s = .next t → t.isActive = false ∧ (992 ≤ s.cfg.armThreshold → t.armed = false)) ∧
    (s.lstate = .connecting ∨ s.lstate = .active →
      exec (.init port baud) s = .next { s with outs := [.resp 0xFF] })

/-- R122: OPEN_RESULT resolves a pending INIT and is ignored outside CONNECTING; IS_ACTIVE is false after either arm. -/
def Obligations.OpenResultResolvesInit : Prop :=
  ∀ (r : OpenResult) (s : State), s.cfg.wf = true →
    (s.lstate ≠ .connecting → exec (.openResult r) s = .next { s with outs := [] }) ∧
    (s.lstate = .connecting → r = .up →
      exec (.openResult r) s = .next { s with
        lstate := .active, initResult := .ok, txCnt := 0, rxAge := s.cfg.linkTimeout + 1, outs := [.initDone 0] }) ∧
    (s.lstate = .connecting → r ≠ .up →
      exec (.openResult r) s = .next { s with lstate := .closed, initResult := .startFail, outs := [.initDone 0xFE] }) ∧
    (s.lstate = .connecting → ∀ t, exec (.openResult r) s = .next t → t.isActive = false)

/-- R123: CLOSE from ACTIVE writes LSTATE only and emits XPORT_CLOSE before RESP(0), after which TICK and RX_BYTE do nothing;
elsewhere it is a no-op that answers RESP(0). -/
def Obligations.CloseEndsAnActiveLink : Prop :=
  ∀ s : State, s.cfg.wf = true →
    (s.lstate = .active → exec .close s = .next { s with lstate := .closed, outs := [.xportClose, .resp 0] }) ∧
    (s.lstate ≠ .active → exec .close s = .next { s with outs := [.resp 0] }) ∧
    (∀ t, exec .close s = .next t → t.isActive = false ∧ t.armed = s.armed ∧
      (s.lstate = .active → (∀ wrOk, exec (.tick wrOk) t = .next { t with outs := [] }) ∧
        ∀ b, exec (.rxByte b) t = .next { t with outs := [] }))

/-- R135: LSTATE moves exactly by the rows of the table, with their outputs; every pair not listed leaves it. -/
def Obligations.LinkMovesOnlyByTheTable : Prop :=
  ∀ (i : Instr) (s t : State), s.cfg.wf = true → s.legal = true → exec i s = .next t →
    match linkRow i s with
    | some (l, outs) => t.lstate = l ∧ t.outs = outs
    | none => t.lstate = s.lstate

/-- From an accepted INIT, CONNECT_TIMEOUT ticks and no fewer end the wait (R151, by counting). -/
def Obligations.ConnectTimeoutFiresAtTheLastTick : Prop :=
  ∀ (port : List Byte) (baud : Word32) (s : State) (ws : List Bool), s.cfg.wf = true →
    (s.lstate = .uninit ∨ s.lstate = .closed) → ws.length ≤ s.cfg.connectTimeout →
    ∃ t outs, runOps (.init port baud :: ws.map .tick) s = some (t, outs) ∧
      (ws.length < s.cfg.connectTimeout → t.lstate = .connecting ∧ t.connCnt = ws.length ∧ outs = [.openReq port baud]) ∧
      (ws.length = s.cfg.connectTimeout → t.lstate = .closed ∧ t.initResult = .timeout ∧
        t.connCnt = s.cfg.connectTimeout ∧ outs = [.openReq port baud, .xportClose, .initDone 0xFD])

/-! ## Channel store -/

/-- R124: state, then count, then every value; on success all 16 registers hold the operands and nothing else changes. -/
def Obligations.SetAllIsAllOrNothing : Prop :=
  ∀ (vs : List Word32) (s : State), s.cfg.wf = true →
    (s.lstate ≠ .active → exec (.setAll vs) s = .next { s with outs := [.resp s.cfg.rcStateError] }) ∧
    (s.lstate = .active → vs.length ≠ 16 ∨ (∃ v ∈ vs, v.toInt < 0 ∨ 1984 < v.toInt) →
      exec (.setAll vs) s = .next { s with outs := [.resp s.cfg.rcConfigError] }) ∧
    (s.lstate = .active → vs.length = 16 → (∀ v ∈ vs, 0 ≤ v.toInt ∧ v.toInt ≤ 1984) →
      ∃ t, exec (.setAll vs) s = .next t ∧ t = { s with ch := t.ch, outs := [.resp 0] } ∧
        (∀ i < 16, (t.readCh i : Int) = (vs.getD i 0).toInt) ∧
        t.armed = decide ((s.cfg.armThreshold : Int) < (vs.getD s.cfg.armCh 0).toInt))

/-- R125: state, then index, then value; on success that one register holds the value and nothing else changes. -/
def Obligations.SetOneStoresOneChannel : Prop :=
  ∀ (index value : Word32) (s : State), s.cfg.wf = true →
    (s.lstate ≠ .active → exec (.setOne index value) s = .next { s with outs := [.resp s.cfg.rcStateError] }) ∧
    (s.lstate = .active →
      (index.toInt < 0 ∨ 15 < index.toInt) ∨ (value.toInt < 0 ∨ 1984 < value.toInt) →
      exec (.setOne index value) s = .next { s with outs := [.resp s.cfg.rcConfigError] }) ∧
    (s.lstate = .active → 0 ≤ index.toInt ∧ index.toInt ≤ 15 → 0 ≤ value.toInt ∧ value.toInt ≤ 1984 →
      ∃ t, exec (.setOne index value) s = .next t ∧ t = { s with ch := t.ch, outs := [.resp 0] } ∧
        (∀ i < 16, (t.readCh i : Int) = if (i : Int) = index.toInt then value.toInt else s.readCh i))

/-- R126: ARM writes ARM_HIGH to the arm channel, leaves the other channels and all else, and arms; it is SET_ONE of them. -/
def Obligations.ArmWritesArmHigh : Prop :=
  ∀ s : State, s.cfg.wf = true →
    (s.lstate ≠ .active → exec .arm s = .next { s with outs := [.resp s.cfg.rcStateError] }) ∧
    (s.lstate = .active → ∃ t, exec .arm s = .next t ∧ t = { s with ch := t.ch, outs := [.resp 0] } ∧
      (∀ i < 16, t.readCh i = if i = s.cfg.armCh then s.cfg.armHigh else s.readCh i) ∧ t.armed = true) ∧
    exec .arm s = exec (.setOne (BitVec.ofNat 32 s.cfg.armCh) (BitVec.ofNat 32 s.cfg.armHigh)) s

/-- R127: DISARM writes ARM_LOW to the arm channel, leaves the other channels and all else, and disarms; it is SET_ONE of them. -/
def Obligations.DisarmWritesArmLow : Prop :=
  ∀ s : State, s.cfg.wf = true →
    (s.lstate ≠ .active → exec .disarm s = .next { s with outs := [.resp s.cfg.rcStateError] }) ∧
    (s.lstate = .active → ∃ t, exec .disarm s = .next t ∧ t = { s with ch := t.ch, outs := [.resp 0] } ∧
      (∀ i < 16, t.readCh i = if i = s.cfg.armCh then s.cfg.armLow else s.readCh i) ∧ t.armed = false) ∧
    exec .disarm s = exec (.setOne (BitVec.ofNat 32 s.cfg.armCh) (BitVec.ofNat 32 s.cfg.armLow)) s

/-! ## Status, registration, errors -/

/-- R128: IS_ACTIVE answers ACTIVE and RX_AGE within the window, in every state, and changes nothing. -/
def Obligations.IsActiveAnswersTheFlag : Prop :=
  ∀ s : State, exec .isActive s = .next { s with
    outs := [.respBool (decide (s.lstate = .active ∧ s.rxAge ≤ s.cfg.linkTimeout))] }

/-- R129 to R133: each registration command replaces its own slot whole in ACTIVE and answers StateError elsewhere. -/
def Obligations.RegistrationReplacesItsSlot : Prop :=
  ∀ (present : Bool) (token : Token) (s : State), s.cfg.wf = true →
    (s.lstate = .active →
      exec (.regLinkstats present token) s = .next { s with
        slots := { s.slots with linkstats := if present then some token else none }, outs := [.resp 0] } ∧
      exec (.regBattery present token) s = .next { s with
        slots := { s.slots with battery := if present then some token else none }, outs := [.resp 0] } ∧
      exec (.regGps present token) s = .next { s with
        slots := { s.slots with gps := if present then some token else none }, outs := [.resp 0] } ∧
      exec (.regAttitude present token) s = .next { s with
        slots := { s.slots with attitude := if present then some token else none }, outs := [.resp 0] }) ∧
    (s.lstate ≠ .active →
      ∀ i ∈ [Instr.regLinkstats present token, .regBattery present token, .regGps present token, .regAttitude present token],
        exec i s = .next { s with outs := [.resp s.cfg.rcStateError] })

/-- R203: the eight store and registry commands answer StateError outside ACTIVE, whatever their operands; no other operation
ever does, as far as the codes differ. -/
def Obligations.StateErrorGuardsStoreAndRegistry : Prop :=
  ∀ (i : Instr) (s : State), s.lstate ≠ .active →
    (needsActive i = true → exec i s = .next { s with outs := [.resp s.cfg.rcStateError] }) ∧
    (needsActive i = false → s.cfg.rcStateError ∉ [s.cfg.rcOk, s.cfg.rcAlreadyInitialized, s.cfg.rcConfigError] →
      ∀ t, exec i s = .next t → OutEvent.resp s.cfg.rcStateError ∉ t.outs)

/-- R134: an illegal command answers ConfigError in every link state and changes nothing. -/
def Obligations.IllegalCommandAnswersConfigError : Prop :=
  ∀ (w : OpWord) (s : State), exec (.illegal w) s = .next { s with outs := [.resp s.cfg.rcConfigError] }

/-- R213: a response other than RC_OK is the step's only output, and the state is otherwise the state before. -/
def Obligations.RejectedCommandChangesNothing : Prop :=
  ∀ (i : Instr) (s t : State) (c : Code), exec i s = .next t → OutEvent.resp c ∈ t.outs → c ≠ s.cfg.rcOk →
    t = { s with outs := [.resp c] }

/-! ## TICK -/

/-- R158: in UNINIT and CLOSED a TICK changes no state and emits nothing. -/
def Obligations.TickIdlesOutsideTheLink : Prop :=
  ∀ (wrOk : Bool) (s : State), s.lstate = .uninit ∨ s.lstate = .closed →
    exec (.tick wrOk) s = .next { s with outs := [] }

/-- R151: in CONNECTING a TICK counts, and at CONNECT_TIMEOUT closes the link with TIMEOUT. -/
def Obligations.TickCountsTheConnectTimeout : Prop :=
  ∀ (wrOk : Bool) (s : State), s.cfg.wf = true → s.lstate = .connecting →
    (s.connCnt + 1 < s.cfg.connectTimeout →
      exec (.tick wrOk) s = .next { s with connCnt := s.connCnt + 1, outs := [] }) ∧
    (s.cfg.connectTimeout ≤ s.connCnt + 1 →
      exec (.tick wrOk) s = .next { s with
        connCnt := s.connCnt + 1, lstate := .closed, initResult := .timeout, outs := [.xportClose, .initDone 0xFD] })

/-- R152, R153, R154: in ACTIVE a TICK ages the link, and sends the snapshot when TX_CNT is 0. -/
def Obligations.TickAgesAndTransmits : Prop :=
  ∀ (wrOk : Bool) (s : State), s.lstate = .active →
    (s.txCnt = 0 →
      exec (.tick wrOk) s = .next { s with
        rxAge := min (s.rxAge + 1) (s.cfg.linkTimeout + 1)
        txCnt := s.cfg.txPeriod - 1
        cntTxframes := min (s.cntTxframes + 1) (2 ^ s.cfg.cntBits - 1)
        cntTxerr := if wrOk then s.cntTxerr else min (s.cntTxerr + 1) (2 ^ s.cfg.cntBits - 1)
        outs := [.txFrame (encodeRcFrame s.cfg (s.ch.toList.map BitVec.toNat))] }) ∧
    (s.txCnt ≠ 0 →
      exec (.tick wrOk) s = .next { s with
        rxAge := min (s.rxAge + 1) (s.cfg.linkTimeout + 1), txCnt := s.txCnt - 1, outs := [] })

/-- R155 (the spec's own inference): only a TICK in ACTIVE with TX_CNT = 0 emits a frame, one, carrying the store at that tick. -/
def Obligations.OnlyTheRateGateEmitsFrames : Prop :=
  ∀ (i : Instr) (s t : State) (f : List Byte), exec i s = .next t → OutEvent.txFrame f ∈ t.outs →
    ∃ wrOk, i = .tick wrOk ∧ s.lstate = .active ∧ s.txCnt = 0 ∧
      f = encodeRcFrame s.cfg (s.ch.toList.map BitVec.toNat) ∧ t.outs = [.txFrame f]

/-- R156 (the spec's own inference): from the entry to ACTIVE, whatever other operations are mixed in, n ticks have emitted
exactly n / TX_PERIOD frames, rounded up; since it holds of every initial part of a run, the ticks that emit are 1, 1 + TX_PERIOD, ... -/
def Obligations.CadenceIsExact : Prop :=
  ∀ (is : List Instr) (s : State), s.cfg.wf = true → s.lstate = .active → s.txCnt = 0 →
    (∀ i ∈ is, i ≠ .reset ∧ i ≠ .close) →
    ∃ t outs, runOps is s = some (t, outs) ∧ t.lstate = .active ∧
      countTx outs = (countTicks is + s.cfg.txPeriod - 1) / s.cfg.txPeriod

/-- R157 (the spec's own inference): in ACTIVE every run with TX_PERIOD ticks holds exactly one frame, whatever else it holds. -/
def Obligations.LinkIsNeverSilent : Prop :=
  ∀ (is : List Instr) (s : State), s.cfg.wf = true → s.legal = true → s.lstate = .active →
    (∀ i ∈ is, i ≠ .reset ∧ i ≠ .close) → countTicks is = s.cfg.txPeriod →
    ∃ t outs, runOps is s = some (t, outs) ∧ countTx outs = 1

/-- R22, R152 by counting: after a valid frame (RX_AGE = 0), n ticks without another leave IS_ACTIVE true exactly while
n is at most LINK_TIMEOUT, and LSTATE stays ACTIVE. -/
def Obligations.ActivityWindowIsExact : Prop :=
  ∀ (ws : List Bool) (s : State), s.lstate = .active → s.rxAge = 0 →
    ∃ t outs, runOps (ws.map .tick) s = some (t, outs) ∧ t.lstate = .active ∧
      t.isActive = decide (ws.length ≤ s.cfg.linkTimeout)

/-! ## RX_BYTE and the parser -/

/-- R170 (and R77 for a whole frame): outside ACTIVE inbound bytes are dropped, with no state change and no output. -/
def Obligations.InboundIsDroppedOutsideActive : Prop :=
  ∀ (i : Instr) (s : State), s.lstate ≠ .active → (∃ b, i = .rxByte b) ∨ i.isOperation = false →
    exec i s = .next { s with outs := [] }

/-- R170, R171, R172: outside ACTIVE a byte is dropped; in ACTIVE it empties a full buffer, counting the overflow, is appended,
and Drain runs to a fixed point. -/
def Obligations.RxByteAppendsAndDrains : Prop :=
  ∀ (b : Byte) (s : State),
    (s.lstate ≠ .active → exec (.rxByte b) s = .next { s with outs := [] }) ∧
    (s.lstate = .active → s.rxbuf.length < s.cfg.rxBufMax →
      exec (.rxByte b) s = .next (State.drain { s with rxbuf := s.rxbuf ++ [b], outs := [] })) ∧
    (s.lstate = .active → s.cfg.rxBufMax ≤ s.rxbuf.length →
      exec (.rxByte b) s = .next (State.drain { s with
        rxbuf := [b], cntOverflow := min (s.cntOverflow + 1) (2 ^ s.cfg.cntBits - 1), outs := [] })) ∧
    (s.lstate = .active → ∀ t, exec (.rxByte b) s = .next t → t.settled = true)

/-- R173: Drain is the loop over FrameAt of that rule, whatever the buffer's length. -/
def Obligations.DrainFollowsTheFramingLoop : Prop :=
  ∀ s : State,
    (frameAt s.cfg s.rxbuf = .needMore → s.drain = s) ∧
    (frameAt s.cfg s.rxbuf = .badSync → s.drain = State.drain { s with rxbuf := s.rxbuf.drop 1 }) ∧
    (frameAt s.cfg s.rxbuf = .badLen → s.drain = State.drain { s with
      rxbuf := s.rxbuf.drop 1, cntLenerr := min (s.cntLenerr + 1) (2 ^ s.cfg.cntBits - 1) }) ∧
    (frameAt s.cfg s.rxbuf = .badCrc → s.drain = State.drain { s with
      rxbuf := s.rxbuf.drop 1, cntCrcerr := min (s.cntCrcerr + 1) (2 ^ s.cfg.cntBits - 1) }) ∧
    (∀ len, frameAt s.cfg s.rxbuf = .valid len → s.drain = (s.accept len).drain)

/-- R179, R181: accepting a valid frame removes its L + 2 bytes, counts it, makes IS_ACTIVE true, and either counts it as
ignored or emits one event with the slot's token, or none for an empty slot. -/
def Obligations.AcceptConsumesAndDispatches : Prop :=
  ∀ (s : State) (len : Nat) (ty : Byte) (d tail : List Byte), 2 ≤ len → d.length = len - 2 →
    (∃ s0 l crc, s.rxbuf = s0 :: l :: ty :: (d ++ crc :: tail)) →
    (classify s.cfg ty d = none →
      s.accept len = { s with
        rxbuf := tail, rxAge := 0
        cntRxvalid := min (s.cntRxvalid + 1) (2 ^ s.cfg.cntBits - 1)
        cntIgnored := min (s.cntIgnored + 1) (2 ^ s.cfg.cntBits - 1) }) ∧
    (∀ k r, classify s.cfg ty d = some (k, r) →
      s.accept len = { s with
        rxbuf := tail, rxAge := 0
        cntRxvalid := min (s.cntRxvalid + 1) (2 ^ s.cfg.cntBits - 1)
        outs := s.outs ++ match s.slots.get k with
          | some tok => [.tlm k tok r]
          | none => [] }) ∧
    (s.lstate = .active → (s.accept len).isActive = true)

/-- R176: a valid frame at the head of a buffer is exactly a sync byte, a legal length byte, and a checksum that agrees; nothing
else is tested. -/
def Obligations.ValidFramesAreExactlyTheCheckedOnes : Prop :=
  ∀ (cfg : Cfg) (buf : List Byte) (len : Nat), cfg.wf = true →
    (frameAt cfg buf = .valid len ↔
      len + 2 ≤ buf.length ∧ buf.getD 0 0 = cfg.rxSync ∧ (buf.getD 1 0).toNat = len ∧ cfg.lenMin ≤ len ∧ len ≤ cfg.lenMax ∧
        crc8 cfg ((buf.drop 2).take (len - 1)) = buf.getD (len + 1) 0)

/-- A frame built by EncodeFrame with RX_SYNC is valid at the head of any buffer when its length byte is legal, and BAD_LEN when it is
not (40_codec_functions.md sections 3 and 4). -/
def Obligations.EncodedFrameIsValid : Prop :=
  ∀ (cfg : Cfg) (ty : Byte) (data tail : List Byte), cfg.wf = true →
    (cfg.frameLenOk data.length = true →
      frameAt cfg (encodeFrame cfg cfg.rxSync ty data ++ tail) = .valid (data.length + 2)) ∧
    (cfg.frameLenOk data.length = false → data.length ≤ 253 →
      frameAt cfg (encodeFrame cfg cfg.rxSync ty data ++ tail) = .badLen)

/-- R185's provable law (the spec's own inference), with the hypothesis it needs when RX_BUF_MAX is small: a valid frame fed
from an empty buffer is accepted by its last byte, and the bytes before it give no output. -/
def Obligations.FrameFromEmptyBufferIsAccepted : Prop :=
  ∀ (s : State) (ty : Byte) (data : List Byte), s.cfg.wf = true → s.lstate = .active → s.rxbuf = [] →
    s.cfg.frameLenOk data.length = true → data.length + 4 ≤ s.cfg.rxBufMax →
    s.receiveAll (inboundFrame s.cfg ty data) =
      State.deliver { s with rxAge := 0, cntRxvalid := min (s.cntRxvalid + 1) (2 ^ s.cfg.cntBits - 1) } ty data ∧
    ∀ n < data.length + 4, s.receiveAll ((inboundFrame s.cfg ty data).take n) =
      { s with rxbuf := (inboundFrame s.cfg ty data).take n }

/-- R185 (b), R91, R177 (the spec's own inferences): a frame with one byte of its body or its checksum changed, and no byte after
its first equal to RX_SYNC, is dropped whole with one CNT_CRCERR, and the next valid frame is accepted by its last byte. -/
def Obligations.CorruptedFrameCostsOnlyItself : Prop :=
  ∀ (s : State) (ty ty' x y : Byte) (data data' a c : List Byte), s.cfg.wf = true → s.cfg.crcPoly.getLsbD 0 = true →
    s.lstate = .active → s.rxbuf = [] →
    s.cfg.frameLenOk data.length = true → data.length + 4 ≤ s.cfg.rxBufMax →
    s.cfg.frameLenOk data'.length = true → data'.length + 4 ≤ s.cfg.rxBufMax →
    inboundFrame s.cfg ty data = a ++ x :: c → 2 ≤ a.length → y ≠ x →
    (∀ b ∈ (a ++ y :: c).tail, b ≠ s.cfg.rxSync) →
    s.receiveAll ((a ++ y :: c) ++ inboundFrame s.cfg ty' data') =
      State.deliver { s with
        rxAge := 0
        cntCrcerr := min (s.cntCrcerr + 1) (2 ^ s.cfg.cntBits - 1)
        cntRxvalid := min (s.cntRxvalid + 1) (2 ^ s.cfg.cntBits - 1) } ty' data'

/-- R186 (the spec's own inference): with LEN_MAX + 2 at most RX_BUF_MAX a settled parser never overflows: no inbound byte or frame
changes CNT_OVERFLOW, and the buffer stays below its capacity. That a frame row means the FEED of its bytes is the model's
choice (log entry 8). -/
def Obligations.OverflowIsUnreachableAtTheDefaults : Prop :=
  ∀ (i : Instr) (s t : State), s.cfg.wf = true → s.cfg.lenMax + 2 ≤ s.cfg.rxBufMax → s.settled = true →
    (∃ b, i = .rxByte b) ∨ i.isOperation = false → exec i s = .next t →
    t.cntOverflow = s.cntOverflow ∧ t.rxbuf.length < s.cfg.rxBufMax ∧ t.settled = true

/-- R171 (last sentence): after every step from a settled state the parser is settled: no complete frame and no byte that could
have been discarded is in RXBUF. -/
def Obligations.EveryStepKeepsTheParserSettled : Prop :=
  ∀ s t : State, s.settled = true → step s = .next t → t.settled = true

/-- R180 (the spec's own inference): an inbound byte or frame touches only RXBUF, RX_AGE and the receive counters, and emits only
telemetry. That a frame row means the FEED of its bytes is the model's choice (log entry 8). -/
def Obligations.InboundTouchesOnlyTheParser : Prop :=
  ∀ (i : Instr) (s t : State), (∃ b, i = .rxByte b) ∨ i.isOperation = false → exec i s = .next t →
    t = { s with
      rxbuf := t.rxbuf, rxAge := t.rxAge, cntRxvalid := t.cntRxvalid, cntCrcerr := t.cntCrcerr, cntLenerr := t.cntLenerr,
      cntOverflow := t.cntOverflow, cntIgnored := t.cntIgnored, outs := t.outs } ∧
    ∀ e ∈ t.outs, ∃ k tok r, e = .tlm k tok r

/-- R181, R210: a telemetry event comes only from ACTIVE and from a slot that holds its token, with a record of its kind. -/
def Obligations.TelemetryNeedsAnEnabledSlot : Prop :=
  ∀ (i : Instr) (s t : State) (k : Kind) (tok : Token) (r : Record), exec i s = .next t → OutEvent.tlm k tok r ∈ t.outs →
    s.tlmEnabled k = true ∧ s.slots.get k = some tok ∧
    match r with
    | .linkStats _ _ _ _ => k = .linkstats
    | .battery _ _ _ => k = .battery
    | .gps _ _ _ _ _ => k = .gps
    | .attitude _ _ _ => k = .attitude

/-! ## Wire frames -/

/-- R69, R99, R179: a link statistics frame that arrives on an empty buffer in ACTIVE is delivered to its handler. That the frame
row stands for the arrival of its bytes is the model's choice here and below (log entry 8). -/
def Obligations.LinkstatsFrameIsDelivered : Prop :=
  ∀ (rssi1 rssi2 lq snr : Byte) (rest : List Byte) (s : State), s.cfg.wf = true → s.lstate = .active → s.rxbuf = [] →
    (Instr.frameLinkstats rssi1 rssi2 lq snr rest).wf s.cfg = true → 8 + rest.length ≤ s.cfg.rxBufMax →
    exec (.frameLinkstats rssi1 rssi2 lq snr rest) s = .next { s with
      rxAge := 0
      cntRxvalid := min (s.cntRxvalid + 1) (2 ^ s.cfg.cntBits - 1)
      outs := match s.slots.linkstats with
        | some tok => [.tlm .linkstats tok (.linkStats rssi1.toInt rssi2.toInt lq.toNat snr.toInt)]
        | none => [] }

/-- R70, R100, R179: a battery frame, both 16-bit fields unsigned. -/
def Obligations.BatteryFrameIsDelivered : Prop :=
  ∀ (voltage current : BitVec 16) (capacity : BitVec 24) (remaining : Byte) (rest : List Byte) (s : State),
    s.cfg.wf = true → s.lstate = .active → s.rxbuf = [] →
    (Instr.frameBattery voltage current capacity remaining rest).wf s.cfg = true → 12 + rest.length ≤ s.cfg.rxBufMax →
    exec (.frameBattery voltage current capacity remaining rest) s = .next { s with
      rxAge := 0
      cntRxvalid := min (s.cntRxvalid + 1) (2 ^ s.cfg.cntBits - 1)
      outs := match s.slots.battery with
        | some tok => [.tlm .battery tok (.battery voltage.toNat current.toNat remaining.toNat)]
        | none => [] }

/-- R71, R101, R179: a GPS frame, the altitude 1000 less than its wire value without wrapping. -/
def Obligations.GpsFrameIsDelivered : Prop :=
  ∀ (lat lon : BitVec 32) (gspd heading alt : BitVec 16) (sats : Byte) (rest : List Byte) (s : State),
    s.cfg.wf = true → s.lstate = .active → s.rxbuf = [] →
    (Instr.frameGps lat lon gspd heading alt sats rest).wf s.cfg = true → 19 + rest.length ≤ s.cfg.rxBufMax →
    exec (.frameGps lat lon gspd heading alt sats rest) s = .next { s with
      rxAge := 0
      cntRxvalid := min (s.cntRxvalid + 1) (2 ^ s.cfg.cntBits - 1)
      outs := match s.slots.gps with
        | some tok => [.tlm .gps tok (.gps lat.toInt lon.toInt ((alt.toNat : Int) - 1000) sats.toNat gspd.toNat)]
        | none => [] }

/-- R72, R102, R179: an attitude frame, three signed counts. -/
def Obligations.AttitudeFrameIsDelivered : Prop :=
  ∀ (pitch roll yaw : BitVec 16) (rest : List Byte) (s : State), s.cfg.wf = true → s.lstate = .active → s.rxbuf = [] →
    (Instr.frameAttitude pitch roll yaw rest).wf s.cfg = true → 10 + rest.length ≤ s.cfg.rxBufMax →
    exec (.frameAttitude pitch roll yaw rest) s = .next { s with
      rxAge := 0
      cntRxvalid := min (s.cntRxvalid + 1) (2 ^ s.cfg.cntBits - 1)
      outs := match s.slots.attitude with
        | some tok => [.tlm .attitude tok (.attitude pitch.toInt roll.toInt yaw.toInt)]
        | none => [] }

/-- R73: an unknown or short frame, and a channel frame, are consumed, counted as valid and ignored, refresh RX_AGE, and emit
nothing. -/
def Obligations.UnknownFramesAreIgnored : Prop :=
  ∀ (i : Instr) (s : State), s.cfg.wf = true → s.lstate = .active → s.rxbuf = [] →
    (∃ ty data, i = .frameUnknown ty data) ∨ (∃ ch, i = .frameRcChannels ch) →
    i.wf s.cfg = true → (encode s.cfg i).length ≤ s.cfg.rxBufMax →
    exec i s = .next { s with
      rxAge := 0
      cntRxvalid := min (s.cntRxvalid + 1) (2 ^ s.cfg.cntBits - 1)
      cntIgnored := min (s.cntIgnored + 1) (2 ^ s.cfg.cntBits - 1)
      outs := [] }

/-- R77 for the frame rows (that a frame row stands for FEED is the model's choice, log entry 8): a frame is the run of one RX_BYTE
per byte, with the outputs of all of them, in every state. -/
def Obligations.FrameIsTheFeedOfItsBytes : Prop :=
  ∀ (i : Instr) (s : State), i.isOperation = false →
    ∃ t outs, runOps (feedOps (encode s.cfg i)) s = some (t, outs) ∧ exec i s = .next { t with outs := outs }

/-! ## Codec -/

/-- The vectors of 95_test_vectors.md section 2.1 (R91's check values). -/
def Obligations.CrcCheckValues : Prop :=
  ([[], [0x00], [0x01], [0x02], [0x80], [0xFF], [0xD5], [0x16], [0x3A],
    [0x31, 0x32, 0x33, 0x34, 0x35, 0x36, 0x37, 0x38, 0x39]] : List (List Byte)).map (crc8 Cfg.test) =
    [0x00, 0x00, 0xD5, 0x7F, 0xEF, 0xF9, 0x0B, 0xD3, 0xA0, 0xBC]

/-- The corner cases R90 lists: the checksum of a sequence with its checksum is 0 for every generator and start value; with start
value 0, leading zeros do not matter and the checksum is linear over xor. -/
def Obligations.CrcAlgebra : Prop :=
  ∀ (cfg : Cfg), (∀ s, crc8 cfg (s ++ [crc8 cfg s]) = 0) ∧
    (cfg.crcInit = 0 → (∀ s, crc8 cfg (0 :: s) = crc8 cfg s) ∧
      ∀ a b : List Byte, a.length = b.length →
        crc8 cfg (List.zipWith (fun x y => x ^^^ y) a b) = crc8 cfg a ^^^ crc8 cfg b)

/-- R91's last sentence (the spec's own inference), for every generator with constant term 1: one changed byte changes the checksum. -/
def Obligations.CrcDetectsOneChangedByte : Prop :=
  ∀ (cfg : Cfg) (a c : List Byte) (x y : Byte), cfg.crcPoly.getLsbD 0 = true → x ≠ y →
    crc8 cfg (a ++ x :: c) ≠ crc8 cfg (a ++ y :: c)

/-- R94 (the spec's own inference): packing and unpacking are inverse both ways, and the outbound frame carries the channels. -/
def Obligations.ChannelPackingRoundTrips : Prop :=
  ∀ cfg : Cfg, cfg.wf = true →
    (∀ ch : List Nat, ch.length = 16 → (∀ c ∈ ch, c < 2 ^ cfg.chBits) → unpackChannels cfg (packChannels cfg ch) = ch) ∧
    (∀ d : List Byte, d.length = cfg.packedLen → packChannels cfg (unpackChannels cfg d) = d ∧
      (unpackChannels cfg d).length = 16 ∧ ∀ c ∈ unpackChannels cfg d, c < 2 ^ cfg.chBits) ∧
    (∀ ch : List Nat, ch.length = 16 → (∀ c ∈ ch, c < 2 ^ cfg.chBits) →
      ∃ d crc, encodeRcFrame cfg ch = cfg.txSync :: BitVec.ofNat 8 (cfg.packedLen + 2) :: cfg.typeRc :: (d ++ [crc]) ∧
        d.length = cfg.packedLen ∧ crc = crc8 cfg (cfg.typeRc :: d) ∧ unpackChannels cfg d = ch)

/-- From R92, with CH_BITS for its 11 (DEDUCED, log entry 13): bit j of channel i is bit (11 i + j) mod 8 of byte (11 i + j) div 8, of 22 bytes. -/
def Obligations.PackedBitsStandInOrder : Prop :=
  ∀ (cfg : Cfg) (ch : List Nat) (i j : Nat), cfg.wf = true → ch.length = 16 → (∀ c ∈ ch, c < 2 ^ cfg.chBits) → i < 16 →
    j < cfg.chBits → (packChannels cfg ch).length = 2 * cfg.chBits ∧
    ((packChannels cfg ch).getD ((cfg.chBits * i + j) / 8) 0).getLsbD ((cfg.chBits * i + j) % 8) = (ch.getD i 0).testBit j

/-- R67, R95 at 11 bits per channel: the outbound frame is TX_SYNC, 24, TYPE_RC, 22 packed bytes and their checksum, 26 bytes in
all; with the default constants the frame of the post-RESET store is that of V-PACK-1. -/
def Obligations.OutboundFrameShape : Prop :=
  (∀ (cfg : Cfg) (ch : List Nat), cfg.wf = true → cfg.chBits = 11 →
    encodeRcFrame cfg ch =
      cfg.txSync :: 24 :: cfg.typeRc :: (packChannels cfg ch ++ [crc8 cfg (cfg.typeRc :: packChannels cfg ch)]) ∧
    (packChannels cfg ch).length = 22 ∧ (encodeRcFrame cfg ch).length = 26) ∧
  encodeRcFrame Cfg.test State.reset.snapshot =
    [0xC8, 0x18, 0x16, 0xE0, 0x03, 0x1F, 0xF8, 0xC0, 0x07, 0x3E, 0xF0, 0x81, 0x0F, 0x7C, 0xE0, 0x03, 0x1F, 0xF8, 0xC0, 0x07,
      0x3E, 0xF0, 0x81, 0x0F, 0x7C, 0xAD]

/-! ## Encoding -/

/-- R61: every well-formed operation is decoded from its operation word, with every operand. That a registration with present = 0
keeps its ignored token bytes is the model's choice (log entry 23). -/
def Obligations.OperationsDecodeFromTheirWords : Prop :=
  ∀ (cfg : Cfg) (i : Instr), i.isOperation = true → i.wf cfg = true → decodeWord (encode cfg i) = .ok i

/-- R61, R74: a word the decoder accepts is the encoding of what it reads, so no bit of a word is dropped. For a
registration word with present = 0 this is so because the instruction keeps the ignored token bytes, the model's choice (log entry 23). -/
def Obligations.DecodedWordsAreTheirEncodings : Prop :=
  ∀ (cfg : Cfg) (w : OpWord) (i : Instr), decodeWord w = .ok i → encode cfg i = w ∧ i.wf cfg = true ∧ i.isOperation = true

/-- R65 to R73: every well-formed wire frame is decoded from its bytes, with every field. -/
def Obligations.FramesDecodeFromTheirBytes : Prop :=
  ∀ (cfg : Cfg) (i : Instr), cfg.wf = true → i.isOperation = false → i.wf cfg = true →
    decodeFrame cfg (encode cfg i) = some i

/-- R74: a host word is ILLEGAL exactly when it is none of the 11 commands, and no host word is refused. -/
def Obligations.HostWordsAreNeverRefused : Prop :=
  ∀ w : OpWord, isHostWord w = true →
    (legalHostWord w = false → decodeWord w = .ok (.illegal w)) ∧
    (legalHostWord w = true → ∃ i, decodeWord w = .ok i ∧ i ≠ .illegal w)

/-- R74: among the words with bit 7 of the opcode set, exactly the listed event words are operations; the others are refused. -/
def Obligations.EventWordsOutsideTheListAreRefused : Prop :=
  ∀ (op : Byte) (args : List Byte), op.msb = true →
    ((∃ i, decodeWord (op :: args) = .ok i) ↔
      (op :: args ∈ [[0x80], [0x81, 0x00], [0x81, 0x01], [0x81, 0x02], [0x82, 0x00], [0x82, 0x01]] ∨
        ∃ b, op :: args = [0x83, b]))

/-- The words of 95_test_vectors.md section 2.4, one for each family, decode to the operations they stand for. -/
def Obligations.WordsOfTheSpecDecode : Prop :=
  decodeWord [0x01, 0x06, 0x70, 0x6F, 0x72, 0x74, 0x2D, 0x41, 0x00, 0x0E, 0x10, 0x00] =
    .ok (.init [0x70, 0x6F, 0x72, 0x74, 0x2D, 0x41] 921600) ∧
  decodeWord [0x04, 0x00, 0x00, 0x00, 0x04, 0x00, 0x00, 0x07, 0xC0] = .ok (.setOne 4 1984) ∧
  decodeWord [0x08, 0x01, 0x00, 0x00, 0x00, 0x11] = .ok (.regLinkstats true 0x11) ∧
  decodeWord [0x81, 0x01] = .ok (.openResult .deviceUnavailable) ∧
  decodeWord [0x82, 0x01] = .ok (.tick true) ∧ decodeWord [0x83, 0xC8] = .ok (.rxByte 0xC8) ∧
  decodeWord [0x08, 0x02, 0x00, 0x00, 0x00, 0x00] = .ok (.illegal [0x08, 0x02, 0x00, 0x00, 0x00, 0x00]) ∧
  decodeWord [0x81, 0x03] = .error (.eventOperand 0x81 0x03)

/-! ## The step -/

/-- R4 (the inbox is the model's choice, log entry 1; the idle step log entry 2): a step applies the oldest word of the inbox, decoded,
to the state without that word; with no word it waits. -/
def Obligations.StepRunsTheDecodedOperation : Prop :=
  ∀ s : State, s.cfg.wf = true → s.legal = true →
    (∀ w rest i, s.inbox = w :: rest → decodeWord w = .ok i → step s = exec i { s with inbox := rest }) ∧
    (s.inbox = [] → step s = .next { s with outs := [] })

/-- R6, R231, R74 (that `step` does the refusing is the model's choice, log entries 4, 7 and 10): what has no meaning is refused by
name. `Cfg.wf` also holds the constraints beyond R6 that other rules need (DEDUCED, log entry 6). -/
def Obligations.StepRefusesWhatHasNoMeaning : Prop :=
  ∀ s : State,
    (s.cfg.wf = false → step s = .refused .badConfig) ∧
    (s.cfg.wf = true → s.legal = false → step s = .refused .unreachableState) ∧
    (s.cfg.wf = true → s.legal = true → ∀ w rest r, s.inbox = w :: rest → decodeWord w = .error r →
      step s = .refused (.notAnOperation r))

/-- Every operation of every reachable state completes (93_implementation_defined.md, end of Part 1): a step from a legal state stops only
for a word that is no operation. That the next inbox is the old one without its oldest word is the model's choice (log entry 1), and
that a step with an empty inbox idles is log entry 2 (DEDUCED). -/
def Obligations.StepIsTotalOnOperations : Prop :=
  ∀ s : State, s.cfg.wf = true → s.legal = true → (∀ w ∈ s.inbox.head?, ∃ i, decodeWord w = .ok i) →
    ∃ t, step s = .next t ∧ t.inbox = s.inbox.tail

/-- The invariants of R27 (the spec's own inference) hold after every step from a state in which they hold, and no step changes the
configuration (R53). -/
def Obligations.EveryStepKeepsTheStateLegal : Prop :=
  ∀ s t : State, s.cfg.wf = true → s.legal = true → step s = .next t → t.legal = true ∧ t.cfg = s.cfg

/-- R4, R24 (a) and (d), R10: the block's state after an instruction and its outputs are `blockStep` of the configuration, the block's
own state and the instruction: neither the outputs of an earlier step nor the words that wait are state of the block. That the
host's State carries them beside the block is the model's choice (log entries 1, 3, 4), and so are the frame rows (log entry 8). -/
def Obligations.ExecIsTheStepOfTheBlock : Prop :=
  ∀ (i : Instr) (s : State),
    exec i s = .next { (blockStep s.cfg s.toBlock i).1 with
      cfg := s.cfg, inbox := s.inbox, outs := (blockStep s.cfg s.toBlock i).2 }

/-- R53, R48: no operation writes the configuration or the operations not applied yet. -/
def Obligations.ExecKeepsConfigAndInbox : Prop :=
  ∀ (i : Instr) (s t : State), exec i s = .next t → t.cfg = s.cfg ∧ t.inbox = s.inbox

/-- R27 (8) (the spec's own inference): outside ACTIVE only RESET, INIT and OPEN_RESULT reach the store, the slots, the buffer, RX_AGE or
TX_CNT. -/
def Obligations.NothingReachesTheHandleOutsideActive : Prop :=
  ∀ (i : Instr) (s t : State), s.lstate ≠ .active → exec i s = .next t →
    i ≠ .reset → (∀ port baud, i ≠ .init port baud) → (∀ r, i ≠ .openResult r) →
    t.ch = s.ch ∧ t.slots = s.slots ∧ t.rxbuf = s.rxbuf ∧ t.rxAge = s.rxAge ∧ t.txCnt = s.txCnt
end

