-- ==== Sys2Proof/Laws/Codec.lean ====
section
/-! SUPPORT. Small lemmas of the codec and the encoder: lengths, the checksum of a concatenation, big-endian fields and their bytes. -/

namespace Sys2Proof

@[simp] theorem bytes16_length (v : BitVec 16) : (bytes16 v).length = 2 := rfl
@[simp] theorem bytes24_length (v : BitVec 24) : (bytes24 v).length = 3 := rfl
@[simp] theorem bytes32_length (v : BitVec 32) : (bytes32 v).length = 4 := rfl

/-- A 16-bit field is read back from its bytes. -/
@[simp] theorem be16_bytes (v : BitVec 16) : be16 (v.extractLsb' 8 8) (v.extractLsb' 0 8) = v := by
  apply BitVec.eq_of_getLsbD_eq
  intro i hi
  simp only [be16, BitVec.getLsbD_append, BitVec.getLsbD_extractLsb']
  interval_cases i <;> simp

/-- A 24-bit field is read back from its bytes. -/
@[simp] theorem be24_bytes (v : BitVec 24) :
    be24 (v.extractLsb' 16 8) (v.extractLsb' 8 8) (v.extractLsb' 0 8) = v := by
  apply BitVec.eq_of_getLsbD_eq
  intro i hi
  simp only [be24, BitVec.getLsbD_append, BitVec.getLsbD_extractLsb']
  interval_cases i <;> simp

/-- A 32-bit operand is read back from its bytes. -/
@[simp] theorem be32_bytes (v : BitVec 32) :
    be32 (v.extractLsb' 24 8) (v.extractLsb' 16 8) (v.extractLsb' 8 8) (v.extractLsb' 0 8) = v := by
  apply BitVec.eq_of_getLsbD_eq
  intro i hi
  simp only [be32, BitVec.getLsbD_append, BitVec.getLsbD_extractLsb']
  interval_cases i <;> simp

/-- The bytes of an assembled 32-bit operand are the bytes it was assembled from. -/
@[simp] theorem bytes32_be (a b c d : Byte) : bytes32 (be32 a b c d) = [a, b, c, d] := by
  simp only [bytes32, be32, List.cons.injEq, and_true]
  refine ⟨?_, ?_, ?_, ?_⟩ <;>
  · apply BitVec.eq_of_getLsbD_eq
    intro i hi
    simp only [BitVec.getLsbD_append, BitVec.getLsbD_extractLsb']
    interval_cases i <;> simp

@[simp] theorem be32?_bytes (v : BitVec 32) : be32? (bytes32 v) = some v := by simp [be32?, bytes32]

/-- A list read as one 32-bit operand is the operand's bytes. -/
theorem be32?_eq_some {l : List Byte} {v : BitVec 32} (h : be32? l = some v) : l = bytes32 v := by
  unfold be32? at h
  split at h
  · rw [← Option.some.inj h, bytes32_be]
  · cases h

/-- The int32 operands of SET_ALL are read back from their bytes. -/
@[simp] theorem wordsBE_flatMap (vs : List Word32) : wordsBE (vs.flatMap bytes32) = vs := by
  induction vs with
  | nil => rfl
  | cons v vs ih => simp [bytes32, wordsBE] at ih ⊢; exact ih

@[simp] theorem flatMap_bytes32_length (vs : List Word32) : (vs.flatMap bytes32).length = 4 * vs.length := by
  induction vs with
  | nil => rfl
  | cons v vs ih => rw [List.flatMap_cons, List.length_append, ih, bytes32_length, List.length_cons]; omega

/-- A whole number of operands has the bytes it was read from, and their count. -/
theorem flatMap_wordsBE (n : Nat) (l : List Byte) (h : l.length = 4 * n) :
    (wordsBE l).flatMap bytes32 = l ∧ (wordsBE l).length = n := by
  induction n generalizing l with
  | zero => rw [List.length_eq_zero_iff.1 h]; exact ⟨rfl, rfl⟩
  | succ n ih =>
    match l, h with
    | a :: b :: c :: d :: t, h =>
      have ht : t.length = 4 * n := by simp only [List.length_cons] at h; omega
      simp [wordsBE, ih t ht]

/-- The byte of a small count is that count. -/
theorem toNat_ofNat_byte {n : Nat} (h : n ≤ 255) : (BitVec.ofNat 8 n).toNat = n := by
  rw [BitVec.toNat_ofNat]; omega

/-- The checksum of a concatenation starts from the checksum of its first part. -/
theorem crc8_append (cfg : Cfg) (s t : List Byte) :
    crc8 cfg (s ++ t) = t.foldl (crc8Step cfg.crcPoly) (crc8 cfg s) := List.foldl_append

@[simp] theorem leBytes_length (n acc : Nat) : (leBytes n acc).length = n := by
  induction n generalizing acc with
  | zero => rfl
  | succ n ih => rw [leBytes, List.length_cons, ih]

@[simp] theorem fieldsOf_length (bits n acc : Nat) : (fieldsOf bits n acc).length = n := by
  induction n generalizing acc with
  | zero => rfl
  | succ n ih => rw [fieldsOf, List.length_cons, ih]

@[simp] theorem packChannels_length (cfg : Cfg) (ch : List Nat) : (packChannels cfg ch).length = cfg.packedLen :=
  leBytes_length _ _

@[simp] theorem encodeFrame_length (cfg : Cfg) (sync ty : Byte) (data : List Byte) :
    (encodeFrame cfg sync ty data).length = data.length + 4 := by simp [encodeFrame]

@[simp] theorem batteryData_length (v c : BitVec 16) (u : BitVec 24) (r : Byte) (rest : List Byte) :
    (batteryData v c u r rest).length = 8 + rest.length := by simp [batteryData]; omega

@[simp] theorem gpsData_length (lat lon : BitVec 32) (g h a : BitVec 16) (n : Byte) (rest : List Byte) :
    (gpsData lat lon g h a n rest).length = 15 + rest.length := by simp [gpsData]; omega

@[simp] theorem linkstatsData_length (r1 r2 lq snr : Byte) (rest : List Byte) :
    (linkstatsData r1 r2 lq snr rest).length = 4 + rest.length := by simp [linkstatsData]; omega

@[simp] theorem attitudeData_length (p r y : BitVec 16) (rest : List Byte) :
    (attitudeData p r y rest).length = 6 + rest.length := by simp [attitudeData]; omega

/-- A zero checksum register stays zero under shifts. -/
theorem crcShifts_zero (poly : Byte) (n : Nat) : crcShifts poly n 0 = 0 := by
  induction n with
  | zero => rfl
  | succ n ih => rw [crcShifts, show crcShift poly 0 = 0 by simp [crcShift], ih]

end Sys2Proof
end

