-- ==== Sys2Proof/Laws/State.lean ====
section
/-! SUPPORT. One lemma per field per named update of the state, so that no proof unfolds a record update; and which updates leave the block as it is. -/

namespace Sys2Proof.Machine.State

/-! ## begin -/

@[simp] theorem begin_toBlock (s : State) : (s.begin).toBlock = s.toBlock := rfl
@[simp] theorem begin_cfg (s : State) : (s.begin).cfg = s.cfg := rfl
@[simp] theorem begin_inbox (s : State) : (s.begin).inbox = s.inbox := rfl
@[simp] theorem begin_outs (s : State) : (s.begin).outs = [] := rfl
@[simp] theorem begin_lstate (s : State) : (s.begin).lstate = s.lstate := rfl
@[simp] theorem begin_initResult (s : State) : (s.begin).initResult = s.initResult := rfl
@[simp] theorem begin_ch (s : State) : (s.begin).ch = s.ch := rfl
@[simp] theorem begin_slots (s : State) : (s.begin).slots = s.slots := rfl
@[simp] theorem begin_rxbuf (s : State) : (s.begin).rxbuf = s.rxbuf := rfl
@[simp] theorem begin_rxAge (s : State) : (s.begin).rxAge = s.rxAge := rfl
@[simp] theorem begin_txCnt (s : State) : (s.begin).txCnt = s.txCnt := rfl
@[simp] theorem begin_connCnt (s : State) : (s.begin).connCnt = s.connCnt := rfl
@[simp] theorem begin_cntTxframes (s : State) : (s.begin).cntTxframes = s.cntTxframes := rfl
@[simp] theorem begin_cntTxerr (s : State) : (s.begin).cntTxerr = s.cntTxerr := rfl
@[simp] theorem begin_cntRxvalid (s : State) : (s.begin).cntRxvalid = s.cntRxvalid := rfl
@[simp] theorem begin_cntCrcerr (s : State) : (s.begin).cntCrcerr = s.cntCrcerr := rfl
@[simp] theorem begin_cntLenerr (s : State) : (s.begin).cntLenerr = s.cntLenerr := rfl
@[simp] theorem begin_cntOverflow (s : State) : (s.begin).cntOverflow = s.cntOverflow := rfl
@[simp] theorem begin_cntIgnored (s : State) : (s.begin).cntIgnored = s.cntIgnored := rfl

/-! ## emit -/

@[simp] theorem emit_toBlock (s : State) (e : OutEvent) : (s.emit e).toBlock = s.toBlock := rfl
@[simp] theorem emit_cfg (s : State) (e : OutEvent) : (s.emit e).cfg = s.cfg := rfl
@[simp] theorem emit_inbox (s : State) (e : OutEvent) : (s.emit e).inbox = s.inbox := rfl
@[simp] theorem emit_outs (s : State) (e : OutEvent) : (s.emit e).outs = s.outs ++ [e] := rfl
@[simp] theorem emit_lstate (s : State) (e : OutEvent) : (s.emit e).lstate = s.lstate := rfl
@[simp] theorem emit_initResult (s : State) (e : OutEvent) : (s.emit e).initResult = s.initResult := rfl
@[simp] theorem emit_ch (s : State) (e : OutEvent) : (s.emit e).ch = s.ch := rfl
@[simp] theorem emit_slots (s : State) (e : OutEvent) : (s.emit e).slots = s.slots := rfl
@[simp] theorem emit_rxbuf (s : State) (e : OutEvent) : (s.emit e).rxbuf = s.rxbuf := rfl
@[simp] theorem emit_rxAge (s : State) (e : OutEvent) : (s.emit e).rxAge = s.rxAge := rfl
@[simp] theorem emit_txCnt (s : State) (e : OutEvent) : (s.emit e).txCnt = s.txCnt := rfl
@[simp] theorem emit_connCnt (s : State) (e : OutEvent) : (s.emit e).connCnt = s.connCnt := rfl
@[simp] theorem emit_cntTxframes (s : State) (e : OutEvent) : (s.emit e).cntTxframes = s.cntTxframes := rfl
@[simp] theorem emit_cntTxerr (s : State) (e : OutEvent) : (s.emit e).cntTxerr = s.cntTxerr := rfl
@[simp] theorem emit_cntRxvalid (s : State) (e : OutEvent) : (s.emit e).cntRxvalid = s.cntRxvalid := rfl
@[simp] theorem emit_cntCrcerr (s : State) (e : OutEvent) : (s.emit e).cntCrcerr = s.cntCrcerr := rfl
@[simp] theorem emit_cntLenerr (s : State) (e : OutEvent) : (s.emit e).cntLenerr = s.cntLenerr := rfl
@[simp] theorem emit_cntOverflow (s : State) (e : OutEvent) : (s.emit e).cntOverflow = s.cntOverflow := rfl
@[simp] theorem emit_cntIgnored (s : State) (e : OutEvent) : (s.emit e).cntIgnored = s.cntIgnored := rfl

/-! ## respondOk -/

@[simp] theorem respondOk_toBlock (s : State) : (s.respondOk).toBlock = s.toBlock := rfl
@[simp] theorem respondOk_cfg (s : State) : (s.respondOk).cfg = s.cfg := rfl
@[simp] theorem respondOk_inbox (s : State) : (s.respondOk).inbox = s.inbox := rfl
@[simp] theorem respondOk_outs (s : State) : (s.respondOk).outs = s.outs ++ [.resp s.cfg.rcOk] := rfl
@[simp] theorem respondOk_lstate (s : State) : (s.respondOk).lstate = s.lstate := rfl
@[simp] theorem respondOk_initResult (s : State) : (s.respondOk).initResult = s.initResult := rfl
@[simp] theorem respondOk_ch (s : State) : (s.respondOk).ch = s.ch := rfl
@[simp] theorem respondOk_slots (s : State) : (s.respondOk).slots = s.slots := rfl
@[simp] theorem respondOk_rxbuf (s : State) : (s.respondOk).rxbuf = s.rxbuf := rfl
@[simp] theorem respondOk_rxAge (s : State) : (s.respondOk).rxAge = s.rxAge := rfl
@[simp] theorem respondOk_txCnt (s : State) : (s.respondOk).txCnt = s.txCnt := rfl
@[simp] theorem respondOk_connCnt (s : State) : (s.respondOk).connCnt = s.connCnt := rfl
@[simp] theorem respondOk_cntTxframes (s : State) : (s.respondOk).cntTxframes = s.cntTxframes := rfl
@[simp] theorem respondOk_cntTxerr (s : State) : (s.respondOk).cntTxerr = s.cntTxerr := rfl
@[simp] theorem respondOk_cntRxvalid (s : State) : (s.respondOk).cntRxvalid = s.cntRxvalid := rfl
@[simp] theorem respondOk_cntCrcerr (s : State) : (s.respondOk).cntCrcerr = s.cntCrcerr := rfl
@[simp] theorem respondOk_cntLenerr (s : State) : (s.respondOk).cntLenerr = s.cntLenerr := rfl
@[simp] theorem respondOk_cntOverflow (s : State) : (s.respondOk).cntOverflow = s.cntOverflow := rfl
@[simp] theorem respondOk_cntIgnored (s : State) : (s.respondOk).cntIgnored = s.cntIgnored := rfl

/-! ## raise -/

@[simp] theorem raise_toBlock (s : State) (e : BlockError) : (s.raise e).toBlock = s.toBlock := rfl
@[simp] theorem raise_cfg (s : State) (e : BlockError) : (s.raise e).cfg = s.cfg := rfl
@[simp] theorem raise_inbox (s : State) (e : BlockError) : (s.raise e).inbox = s.inbox := rfl
@[simp] theorem raise_outs (s : State) (e : BlockError) : (s.raise e).outs = [.resp (e.code s.cfg)] := rfl
@[simp] theorem raise_lstate (s : State) (e : BlockError) : (s.raise e).lstate = s.lstate := rfl
@[simp] theorem raise_initResult (s : State) (e : BlockError) : (s.raise e).initResult = s.initResult := rfl
@[simp] theorem raise_ch (s : State) (e : BlockError) : (s.raise e).ch = s.ch := rfl
@[simp] theorem raise_slots (s : State) (e : BlockError) : (s.raise e).slots = s.slots := rfl
@[simp] theorem raise_rxbuf (s : State) (e : BlockError) : (s.raise e).rxbuf = s.rxbuf := rfl
@[simp] theorem raise_rxAge (s : State) (e : BlockError) : (s.raise e).rxAge = s.rxAge := rfl
@[simp] theorem raise_txCnt (s : State) (e : BlockError) : (s.raise e).txCnt = s.txCnt := rfl
@[simp] theorem raise_connCnt (s : State) (e : BlockError) : (s.raise e).connCnt = s.connCnt := rfl
@[simp] theorem raise_cntTxframes (s : State) (e : BlockError) : (s.raise e).cntTxframes = s.cntTxframes := rfl
@[simp] theorem raise_cntTxerr (s : State) (e : BlockError) : (s.raise e).cntTxerr = s.cntTxerr := rfl
@[simp] theorem raise_cntRxvalid (s : State) (e : BlockError) : (s.raise e).cntRxvalid = s.cntRxvalid := rfl
@[simp] theorem raise_cntCrcerr (s : State) (e : BlockError) : (s.raise e).cntCrcerr = s.cntCrcerr := rfl
@[simp] theorem raise_cntLenerr (s : State) (e : BlockError) : (s.raise e).cntLenerr = s.cntLenerr := rfl
@[simp] theorem raise_cntOverflow (s : State) (e : BlockError) : (s.raise e).cntOverflow = s.cntOverflow := rfl
@[simp] theorem raise_cntIgnored (s : State) (e : BlockError) : (s.raise e).cntIgnored = s.cntIgnored := rfl

/-! ## connReset -/

@[simp] theorem connReset_cfg (s : State) : (s.connReset).cfg = s.cfg := rfl
@[simp] theorem connReset_inbox (s : State) : (s.connReset).inbox = s.inbox := rfl
@[simp] theorem connReset_outs (s : State) : (s.connReset).outs = s.outs := rfl
@[simp] theorem connReset_lstate (s : State) : (s.connReset).lstate = s.lstate := rfl
@[simp] theorem connReset_initResult (s : State) : (s.connReset).initResult = s.initResult := rfl
@[simp] theorem connReset_ch (s : State) : (s.connReset).ch = Vector.replicate 16 (BitVec.ofNat 11 s.cfg.chCenter) := rfl
@[simp] theorem connReset_slots (s : State) : (s.connReset).slots = ⟨none, none, none, none⟩ := rfl
@[simp] theorem connReset_rxbuf (s : State) : (s.connReset).rxbuf = [] := rfl
@[simp] theorem connReset_rxAge (s : State) : (s.connReset).rxAge = s.cfg.linkTimeout + 1 := rfl
@[simp] theorem connReset_txCnt (s : State) : (s.connReset).txCnt = 0 := rfl
@[simp] theorem connReset_connCnt (s : State) : (s.connReset).connCnt = 0 := rfl
@[simp] theorem connReset_cntTxframes (s : State) : (s.connReset).cntTxframes = 0 := rfl
@[simp] theorem connReset_cntTxerr (s : State) : (s.connReset).cntTxerr = 0 := rfl
@[simp] theorem connReset_cntRxvalid (s : State) : (s.connReset).cntRxvalid = 0 := rfl
@[simp] theorem connReset_cntCrcerr (s : State) : (s.connReset).cntCrcerr = 0 := rfl
@[simp] theorem connReset_cntLenerr (s : State) : (s.connReset).cntLenerr = 0 := rfl
@[simp] theorem connReset_cntOverflow (s : State) : (s.connReset).cntOverflow = 0 := rfl
@[simp] theorem connReset_cntIgnored (s : State) : (s.connReset).cntIgnored = 0 := rfl

/-! ## writeCh -/

@[simp] theorem writeCh_cfg (s : State) (i v : Nat) : (s.writeCh i v).cfg = s.cfg := rfl
@[simp] theorem writeCh_inbox (s : State) (i v : Nat) : (s.writeCh i v).inbox = s.inbox := rfl
@[simp] theorem writeCh_outs (s : State) (i v : Nat) : (s.writeCh i v).outs = s.outs := rfl
@[simp] theorem writeCh_lstate (s : State) (i v : Nat) : (s.writeCh i v).lstate = s.lstate := rfl
@[simp] theorem writeCh_initResult (s : State) (i v : Nat) : (s.writeCh i v).initResult = s.initResult := rfl
@[simp] theorem writeCh_ch (s : State) (i v : Nat) : (s.writeCh i v).ch = s.ch.setIfInBounds i (BitVec.ofNat 11 v) := rfl
@[simp] theorem writeCh_slots (s : State) (i v : Nat) : (s.writeCh i v).slots = s.slots := rfl
@[simp] theorem writeCh_rxbuf (s : State) (i v : Nat) : (s.writeCh i v).rxbuf = s.rxbuf := rfl
@[simp] theorem writeCh_rxAge (s : State) (i v : Nat) : (s.writeCh i v).rxAge = s.rxAge := rfl
@[simp] theorem writeCh_txCnt (s : State) (i v : Nat) : (s.writeCh i v).txCnt = s.txCnt := rfl
@[simp] theorem writeCh_connCnt (s : State) (i v : Nat) : (s.writeCh i v).connCnt = s.connCnt := rfl
@[simp] theorem writeCh_cntTxframes (s : State) (i v : Nat) : (s.writeCh i v).cntTxframes = s.cntTxframes := rfl
@[simp] theorem writeCh_cntTxerr (s : State) (i v : Nat) : (s.writeCh i v).cntTxerr = s.cntTxerr := rfl
@[simp] theorem writeCh_cntRxvalid (s : State) (i v : Nat) : (s.writeCh i v).cntRxvalid = s.cntRxvalid := rfl
@[simp] theorem writeCh_cntCrcerr (s : State) (i v : Nat) : (s.writeCh i v).cntCrcerr = s.cntCrcerr := rfl
@[simp] theorem writeCh_cntLenerr (s : State) (i v : Nat) : (s.writeCh i v).cntLenerr = s.cntLenerr := rfl
@[simp] theorem writeCh_cntOverflow (s : State) (i v : Nat) : (s.writeCh i v).cntOverflow = s.cntOverflow := rfl
@[simp] theorem writeCh_cntIgnored (s : State) (i v : Nat) : (s.writeCh i v).cntIgnored = s.cntIgnored := rfl

/-! ## writeAll -/

@[simp] theorem writeAll_cfg (s : State) (vs : List Word32) : (s.writeAll vs).cfg = s.cfg := by rw [writeAll]
@[simp] theorem writeAll_inbox (s : State) (vs : List Word32) : (s.writeAll vs).inbox = s.inbox := by rw [writeAll]
@[simp] theorem writeAll_outs (s : State) (vs : List Word32) : (s.writeAll vs).outs = s.outs := by rw [writeAll]
@[simp] theorem writeAll_lstate (s : State) (vs : List Word32) : (s.writeAll vs).lstate = s.lstate := by rw [writeAll]
@[simp] theorem writeAll_initResult (s : State) (vs : List Word32) : (s.writeAll vs).initResult = s.initResult := by rw [writeAll]
@[simp] theorem writeAll_ch (s : State) (vs : List Word32) : (s.writeAll vs).ch = Vector.ofFn fun i : Fin 16 => (vs.getD i.val 0).setWidth 11 := by rw [writeAll]
@[simp] theorem writeAll_slots (s : State) (vs : List Word32) : (s.writeAll vs).slots = s.slots := by rw [writeAll]
@[simp] theorem writeAll_rxbuf (s : State) (vs : List Word32) : (s.writeAll vs).rxbuf = s.rxbuf := by rw [writeAll]
@[simp] theorem writeAll_rxAge (s : State) (vs : List Word32) : (s.writeAll vs).rxAge = s.rxAge := by rw [writeAll]
@[simp] theorem writeAll_txCnt (s : State) (vs : List Word32) : (s.writeAll vs).txCnt = s.txCnt := by rw [writeAll]
@[simp] theorem writeAll_connCnt (s : State) (vs : List Word32) : (s.writeAll vs).connCnt = s.connCnt := by rw [writeAll]
@[simp] theorem writeAll_cntTxframes (s : State) (vs : List Word32) : (s.writeAll vs).cntTxframes = s.cntTxframes := by rw [writeAll]
@[simp] theorem writeAll_cntTxerr (s : State) (vs : List Word32) : (s.writeAll vs).cntTxerr = s.cntTxerr := by rw [writeAll]
@[simp] theorem writeAll_cntRxvalid (s : State) (vs : List Word32) : (s.writeAll vs).cntRxvalid = s.cntRxvalid := by rw [writeAll]
@[simp] theorem writeAll_cntCrcerr (s : State) (vs : List Word32) : (s.writeAll vs).cntCrcerr = s.cntCrcerr := by rw [writeAll]
@[simp] theorem writeAll_cntLenerr (s : State) (vs : List Word32) : (s.writeAll vs).cntLenerr = s.cntLenerr := by rw [writeAll]
@[simp] theorem writeAll_cntOverflow (s : State) (vs : List Word32) : (s.writeAll vs).cntOverflow = s.cntOverflow := by rw [writeAll]
@[simp] theorem writeAll_cntIgnored (s : State) (vs : List Word32) : (s.writeAll vs).cntIgnored = s.cntIgnored := by rw [writeAll]

/-! ## rxAppend -/

@[simp] theorem rxAppend_cfg (s : State) (b : Byte) : (s.rxAppend b).cfg = s.cfg := rfl
@[simp] theorem rxAppend_inbox (s : State) (b : Byte) : (s.rxAppend b).inbox = s.inbox := rfl
@[simp] theorem rxAppend_outs (s : State) (b : Byte) : (s.rxAppend b).outs = s.outs := rfl
@[simp] theorem rxAppend_lstate (s : State) (b : Byte) : (s.rxAppend b).lstate = s.lstate := rfl
@[simp] theorem rxAppend_initResult (s : State) (b : Byte) : (s.rxAppend b).initResult = s.initResult := rfl
@[simp] theorem rxAppend_ch (s : State) (b : Byte) : (s.rxAppend b).ch = s.ch := rfl
@[simp] theorem rxAppend_slots (s : State) (b : Byte) : (s.rxAppend b).slots = s.slots := rfl
@[simp] theorem rxAppend_rxbuf (s : State) (b : Byte) : (s.rxAppend b).rxbuf = s.rxbuf ++ [b] := rfl
@[simp] theorem rxAppend_rxAge (s : State) (b : Byte) : (s.rxAppend b).rxAge = s.rxAge := rfl
@[simp] theorem rxAppend_txCnt (s : State) (b : Byte) : (s.rxAppend b).txCnt = s.txCnt := rfl
@[simp] theorem rxAppend_connCnt (s : State) (b : Byte) : (s.rxAppend b).connCnt = s.connCnt := rfl
@[simp] theorem rxAppend_cntTxframes (s : State) (b : Byte) : (s.rxAppend b).cntTxframes = s.cntTxframes := rfl
@[simp] theorem rxAppend_cntTxerr (s : State) (b : Byte) : (s.rxAppend b).cntTxerr = s.cntTxerr := rfl
@[simp] theorem rxAppend_cntRxvalid (s : State) (b : Byte) : (s.rxAppend b).cntRxvalid = s.cntRxvalid := rfl
@[simp] theorem rxAppend_cntCrcerr (s : State) (b : Byte) : (s.rxAppend b).cntCrcerr = s.cntCrcerr := rfl
@[simp] theorem rxAppend_cntLenerr (s : State) (b : Byte) : (s.rxAppend b).cntLenerr = s.cntLenerr := rfl
@[simp] theorem rxAppend_cntOverflow (s : State) (b : Byte) : (s.rxAppend b).cntOverflow = s.cntOverflow := rfl
@[simp] theorem rxAppend_cntIgnored (s : State) (b : Byte) : (s.rxAppend b).cntIgnored = s.cntIgnored := rfl

/-! ## rxDrop -/

@[simp] theorem rxDrop_cfg (s : State) (n : Nat) : (s.rxDrop n).cfg = s.cfg := rfl
@[simp] theorem rxDrop_inbox (s : State) (n : Nat) : (s.rxDrop n).inbox = s.inbox := rfl
@[simp] theorem rxDrop_outs (s : State) (n : Nat) : (s.rxDrop n).outs = s.outs := rfl
@[simp] theorem rxDrop_lstate (s : State) (n : Nat) : (s.rxDrop n).lstate = s.lstate := rfl
@[simp] theorem rxDrop_initResult (s : State) (n : Nat) : (s.rxDrop n).initResult = s.initResult := rfl
@[simp] theorem rxDrop_ch (s : State) (n : Nat) : (s.rxDrop n).ch = s.ch := rfl
@[simp] theorem rxDrop_slots (s : State) (n : Nat) : (s.rxDrop n).slots = s.slots := rfl
@[simp] theorem rxDrop_rxbuf (s : State) (n : Nat) : (s.rxDrop n).rxbuf = s.rxbuf.drop n := rfl
@[simp] theorem rxDrop_rxAge (s : State) (n : Nat) : (s.rxDrop n).rxAge = s.rxAge := rfl
@[simp] theorem rxDrop_txCnt (s : State) (n : Nat) : (s.rxDrop n).txCnt = s.txCnt := rfl
@[simp] theorem rxDrop_connCnt (s : State) (n : Nat) : (s.rxDrop n).connCnt = s.connCnt := rfl
@[simp] theorem rxDrop_cntTxframes (s : State) (n : Nat) : (s.rxDrop n).cntTxframes = s.cntTxframes := rfl
@[simp] theorem rxDrop_cntTxerr (s : State) (n : Nat) : (s.rxDrop n).cntTxerr = s.cntTxerr := rfl
@[simp] theorem rxDrop_cntRxvalid (s : State) (n : Nat) : (s.rxDrop n).cntRxvalid = s.cntRxvalid := rfl
@[simp] theorem rxDrop_cntCrcerr (s : State) (n : Nat) : (s.rxDrop n).cntCrcerr = s.cntCrcerr := rfl
@[simp] theorem rxDrop_cntLenerr (s : State) (n : Nat) : (s.rxDrop n).cntLenerr = s.cntLenerr := rfl
@[simp] theorem rxDrop_cntOverflow (s : State) (n : Nat) : (s.rxDrop n).cntOverflow = s.cntOverflow := rfl
@[simp] theorem rxDrop_cntIgnored (s : State) (n : Nat) : (s.rxDrop n).cntIgnored = s.cntIgnored := rfl

/-! ## rxClear -/

@[simp] theorem rxClear_cfg (s : State) : (s.rxClear).cfg = s.cfg := rfl
@[simp] theorem rxClear_inbox (s : State) : (s.rxClear).inbox = s.inbox := rfl
@[simp] theorem rxClear_outs (s : State) : (s.rxClear).outs = s.outs := rfl
@[simp] theorem rxClear_lstate (s : State) : (s.rxClear).lstate = s.lstate := rfl
@[simp] theorem rxClear_initResult (s : State) : (s.rxClear).initResult = s.initResult := rfl
@[simp] theorem rxClear_ch (s : State) : (s.rxClear).ch = s.ch := rfl
@[simp] theorem rxClear_slots (s : State) : (s.rxClear).slots = s.slots := rfl
@[simp] theorem rxClear_rxbuf (s : State) : (s.rxClear).rxbuf = [] := rfl
@[simp] theorem rxClear_rxAge (s : State) : (s.rxClear).rxAge = s.rxAge := rfl
@[simp] theorem rxClear_txCnt (s : State) : (s.rxClear).txCnt = s.txCnt := rfl
@[simp] theorem rxClear_connCnt (s : State) : (s.rxClear).connCnt = s.connCnt := rfl
@[simp] theorem rxClear_cntTxframes (s : State) : (s.rxClear).cntTxframes = s.cntTxframes := rfl
@[simp] theorem rxClear_cntTxerr (s : State) : (s.rxClear).cntTxerr = s.cntTxerr := rfl
@[simp] theorem rxClear_cntRxvalid (s : State) : (s.rxClear).cntRxvalid = s.cntRxvalid := rfl
@[simp] theorem rxClear_cntCrcerr (s : State) : (s.rxClear).cntCrcerr = s.cntCrcerr := rfl
@[simp] theorem rxClear_cntLenerr (s : State) : (s.rxClear).cntLenerr = s.cntLenerr := rfl
@[simp] theorem rxClear_cntOverflow (s : State) : (s.rxClear).cntOverflow = s.cntOverflow := rfl
@[simp] theorem rxClear_cntIgnored (s : State) : (s.rxClear).cntIgnored = s.cntIgnored := rfl

end Sys2Proof.Machine.State
end

