-- ==== Sys2Proof/Laws/Ops.lean ====
section
/-! SUPPORT. For each shared operation outside the parser, what it can do, said once. -/

namespace Sys2Proof.Machine

/-- A saturating counter stays within its width. -/
theorem satInc_le (bits c : Nat) : satInc bits c ≤ 2 ^ bits - 1 := Nat.min_le_right _ _

/-- A saturating counter below its top counts one. -/
theorem satInc_of_lt {bits c : Nat} (h : c < 2 ^ bits - 1) : satInc bits c = c + 1 := Nat.min_eq_left h

/-- `whenActive` runs the command in ACTIVE and raises StateError elsewhere. -/
theorem State.whenActive_cases (s : State) (k : State → State) :
    (s.lstate = .active ∧ s.whenActive k = k s) ∨ (s.lstate ≠ .active ∧ s.whenActive k = s.raise .stateError) := by
  unfold State.whenActive
  split
  · exact .inl ⟨‹_›, rfl⟩
  · exact .inr ⟨‹_›, rfl⟩

@[simp] theorem State.whenActive_active {s : State} {k : State → State} (h : s.lstate = .active) :
    s.whenActive k = k s := if_pos h

@[simp] theorem State.whenActive_other {s : State} {k : State → State} (h : s.lstate ≠ .active) :
    s.whenActive k = s.raise .stateError := if_neg h

@[simp] theorem Slots.get_set_same (sl : Slots) (k : Kind) (h : Option Token) : (sl.set k h).get k = h := by
  cases k <;> rfl

theorem Slots.get_set_other (sl : Slots) {j k : Kind} (h : Option Token) (hne : j ≠ k) :
    (sl.set k h).get j = sl.get j := by
  cases k <;> cases j <;> first | rfl | exact absurd rfl hne

/-- Two slot files are equal when every slot is. -/
theorem Slots.ext_get {a b : Slots} (h : ∀ k, a.get k = b.get k) : a = b := by
  cases a; cases b
  have h0 := h .linkstats; have h1 := h .battery; have h2 := h .gps; have h3 := h .attitude
  simp only [Slots.get] at h0 h1 h2 h3
  rw [h0, h1, h2, h3]

/-- A register reads back what was written, as far as 11 bits hold it. -/
theorem State.readCh_writeCh_same (s : State) {i : Nat} (v : Nat) (hi : i < 16) :
    (s.writeCh i v).readCh i = v % 2 ^ 11 := by
  simp [State.readCh, hi]

theorem State.readCh_writeCh_other (s : State) {i j : Nat} (v : Nat) (hne : j ≠ i) :
    (s.writeCh i v).readCh j = s.readCh j := by
  simp [State.readCh, Vector.getElem?_setIfInBounds_ne (Ne.symm hne)]

theorem State.readCh_writeAll (s : State) (vs : List Word32) {i : Nat} (hi : i < 16) :
    (s.writeAll vs).readCh i = (vs.getD i 0).toNat % 2 ^ 11 := by
  simp [State.readCh, hi, BitVec.toNat_setWidth]

/-- An in-range channel value is a natural below 2^11 that the register holds whole. -/
theorem valueOk_iff (cfg : Cfg) (v : Word32) :
    cfg.valueOk v = true ↔ (cfg.chMin : Int) ≤ v.toInt ∧ v.toInt ≤ cfg.chMax := by
  simp [Cfg.valueOk, inRange]

theorem indexOk_iff (cfg : Cfg) (v : Word32) :
    cfg.indexOk v = true ↔ 0 ≤ v.toInt ∧ v.toInt ≤ (cfg.nch : Int) - 1 := by
  simp [Cfg.indexOk, inRange]

/-- A non-negative int32 is its own unsigned reading. -/
theorem toNat_of_toInt_nonneg {v : Word32} (h : 0 ≤ v.toInt) : (v.toNat : Int) = v.toInt := by
  rw [BitVec.toInt_eq_toNat_cond] at h ⊢
  have := v.isLt
  split at h <;> split <;> omega

/-- What a well-formed configuration says, field by field. -/
theorem Cfg_wf_facts {cfg : Cfg} (h : cfg.wf = true) :
    cfg.nch = 16 ∧ cfg.chMin = 0 ∧ cfg.chMax = 1984 ∧ cfg.chCenter = 992 ∧ cfg.armCh < 16 ∧
      cfg.armLow ≤ cfg.armThreshold ∧ cfg.armThreshold < cfg.armHigh ∧ cfg.armHigh ≤ 1984 ∧ 11 ≤ cfg.chBits ∧
      2 ≤ cfg.lenMin ∧ cfg.lenMin ≤ cfg.lenMax ∧ cfg.lenMax ≤ 255 ∧ 4 ≤ cfg.rxBufMax ∧ 1 ≤ cfg.txPeriod ∧
      1 ≤ cfg.connectTimeout ∧ 1 ≤ cfg.cntBits ∧ cfg.packedLen = 2 * cfg.chBits ∧ cfg.packedLen + 2 ≤ 255 ∧
      4 ≤ cfg.minLinkstats ∧ 8 ≤ cfg.minBattery ∧ 15 ≤ cfg.minGps ∧ 6 ≤ cfg.minAttitude := by
  simp only [Cfg.wf, Cfg.meetsR6, Cfg.meetsLayout, Bool.and_eq_true, decide_eq_true_eq] at h
  obtain ⟨⟨h1, h2, -, h4, h5, h6, h7, h8, h9, -, -, h12, h13, h14, h15, h16, h17, h18⟩,
    -, g1, -, -, -, -, -, -, -, g9, g10, g11, g12, g13⟩ := h
  have hb : 11 ≤ cfg.chBits := by
    by_contra hlt
    have : 2 ^ cfg.chBits ≤ 2 ^ 10 := Nat.pow_le_pow_right (by decide) (by omega)
    omega
  have hp : cfg.packedLen = 2 * cfg.chBits := by
    rw [Cfg.packedLen, h1]; omega
  exact ⟨h1, h2.symm, h7, g1, by omega, h4, h5, by omega, hb, h12, h13, h14, h15, h16, h17, h18, hp, g13, g9, g10, g11, g12⟩

/-- The arm channel of a well-formed configuration is channel 4 (R5, a source value). -/
theorem Cfg_wf_armCh {cfg : Cfg} (h : cfg.wf = true) : cfg.armCh = 4 := by
  simp only [Cfg.wf, Cfg.meetsLayout, Bool.and_eq_true, decide_eq_true_eq] at h
  exact h.2.1

/-- The type bytes of a well-formed configuration are pairwise distinct (R6). -/
theorem Cfg_wf_types {cfg : Cfg} (h : cfg.wf = true) :
    [cfg.typeRc, cfg.typeGps, cfg.typeBattery, cfg.typeLinkstats, cfg.typeAttitude].Nodup := by
  simp only [Cfg.wf, Cfg.meetsR6, Bool.and_eq_true, decide_eq_true_eq] at h
  obtain ⟨⟨-, -, -, -, -, -, -, -, -, -, h11, -⟩, -⟩ := h
  exact h11

/-- What one transmission changes (R154). -/
theorem State.transmit_spec (s : State) (wrOk : Bool) :
    s.transmit wrOk = { s with
      outs := s.outs ++ [.txFrame (encodeRcFrame s.cfg s.snapshot)]
      cntTxframes := satInc s.cfg.cntBits s.cntTxframes
      cntTxerr := if wrOk then s.cntTxerr else satInc s.cfg.cntBits s.cntTxerr } := rfl

end Sys2Proof.Machine
end

