-- ==== Sys2Proof/Laws/Parser.lean ====
section
/-! SUPPORT. The parser: what a pass, the framing loop, a fed byte and a fed sequence can change, that the loop ends settled, and that it reads neither the inbox nor the outputs. -/

namespace Sys2Proof.Machine

/-- The event is a telemetry event for a slot that holds its token. -/
def TlmFrom (sl : Slots) (e : OutEvent) : Prop := ∃ k tok r, e = .tlm k tok r ∧ sl.get k = some tok

/-- The seven counters are within their width. -/
def CountersFit (s : State) : Prop :=
  ∀ c ∈ [s.cntTxframes, s.cntTxerr, s.cntRxvalid, s.cntCrcerr, s.cntLenerr, s.cntOverflow, s.cntIgnored],
    c ≤ 2 ^ s.cfg.cntBits - 1

/-- All that the framing loop can do to a state (R173 to R181). -/
structure ParserStep (s t : State) : Prop where
  cfg : t.cfg = s.cfg
  inbox : t.inbox = s.inbox
  lstate : t.lstate = s.lstate
  initResult : t.initResult = s.initResult
  ch : t.ch = s.ch
  slots : t.slots = s.slots
  txCnt : t.txCnt = s.txCnt
  connCnt : t.connCnt = s.connCnt
  cntTxframes : t.cntTxframes = s.cntTxframes
  cntTxerr : t.cntTxerr = s.cntTxerr
  cntOverflow : t.cntOverflow = s.cntOverflow
  rxbuf : t.rxbuf <:+ s.rxbuf
  rxAge : t.rxAge = s.rxAge ∨ t.rxAge = 0
  outs : ∃ evs, t.outs = s.outs ++ evs ∧ ∀ e ∈ evs, TlmFrom s.slots e
  fit : CountersFit s → CountersFit t

theorem ParserStep.refl (s : State) : ParserStep s s :=
  ⟨rfl, rfl, rfl, rfl, rfl, rfl, rfl, rfl, rfl, rfl, rfl, List.suffix_refl _, .inl rfl, ⟨[], by simp⟩, id⟩

theorem ParserStep.trans {s t u : State} (h : ParserStep s t) (k : ParserStep t u) : ParserStep s u where
  cfg := k.cfg.trans h.cfg
  inbox := k.inbox.trans h.inbox
  lstate := k.lstate.trans h.lstate
  initResult := k.initResult.trans h.initResult
  ch := k.ch.trans h.ch
  slots := k.slots.trans h.slots
  txCnt := k.txCnt.trans h.txCnt
  connCnt := k.connCnt.trans h.connCnt
  cntTxframes := k.cntTxframes.trans h.cntTxframes
  cntTxerr := k.cntTxerr.trans h.cntTxerr
  cntOverflow := k.cntOverflow.trans h.cntOverflow
  rxbuf := k.rxbuf.trans h.rxbuf
  rxAge := k.rxAge.elim (fun e => h.rxAge.imp e.trans e.trans) .inr
  outs := by
    obtain ⟨e1, h1, p1⟩ := h.outs
    obtain ⟨e2, h2, p2⟩ := k.outs
    refine ⟨e1 ++ e2, by rw [h2, h1, List.append_assoc], fun e he => ?_⟩
    rcases List.mem_append.1 he with he | he
    · exact p1 e he
    · exact h.slots ▸ p2 e he
  fit := fun f => k.fit (h.fit f)

/-- Dropping bytes from the head, without or with a count of them. -/
theorem ParserStep.drop (s : State) (n : Nat) : ParserStep s (s.rxDrop n) :=
  ⟨rfl, rfl, rfl, rfl, rfl, rfl, rfl, rfl, rfl, rfl, rfl, List.drop_suffix _ _, .inl rfl, ⟨[], by simp⟩, id⟩

theorem ParserStep.dropLenerr (s : State) (n : Nat) :
    ParserStep s { s.rxDrop n with cntLenerr := satInc s.cfg.cntBits s.cntLenerr } :=
  ⟨rfl, rfl, rfl, rfl, rfl, rfl, rfl, rfl, rfl, rfl, rfl, List.drop_suffix _ _, .inl rfl, ⟨[], by simp⟩, by
    have := satInc_le s.cfg.cntBits s.cntLenerr
    simp [CountersFit]; tauto⟩

theorem ParserStep.dropCrcerr (s : State) (n : Nat) :
    ParserStep s { s.rxDrop n with cntCrcerr := satInc s.cfg.cntBits s.cntCrcerr } :=
  ⟨rfl, rfl, rfl, rfl, rfl, rfl, rfl, rfl, rfl, rfl, rfl, List.drop_suffix _ _, .inl rfl, ⟨[], by simp⟩, by
    have := satInc_le s.cfg.cntBits s.cntCrcerr
    simp [CountersFit]; tauto⟩

theorem ParserStep.dispatch (s : State) (k : Kind) (r : Record) : ParserStep s (s.dispatch k r) := by
  unfold State.dispatch
  split
  · exact .refl s
  · rename_i t ht
    exact ⟨rfl, rfl, rfl, rfl, rfl, rfl, rfl, rfl, rfl, rfl, rfl, List.suffix_refl _, .inl rfl,
      ⟨[.tlm k t r], rfl, by simp only [List.mem_singleton]; rintro e rfl; exact ⟨k, t, r, rfl, ht⟩⟩, id⟩

theorem ParserStep.deliver (s : State) (ty : Byte) (d : List Byte) : ParserStep s (s.deliver ty d) := by
  unfold State.deliver
  split
  · exact ⟨rfl, rfl, rfl, rfl, rfl, rfl, rfl, rfl, rfl, rfl, rfl, List.suffix_refl _, .inl rfl, ⟨[], by simp⟩, by
      have := satInc_le s.cfg.cntBits s.cntIgnored
      simp [CountersFit]; tauto⟩
  · exact .dispatch s _ _

@[simp] theorem State.dispatch_rxbuf (s : State) (k : Kind) (r : Record) : (s.dispatch k r).rxbuf = s.rxbuf := by
  unfold State.dispatch; split <;> rfl

@[simp] theorem State.deliver_rxbuf (s : State) (ty : Byte) (d : List Byte) : (s.deliver ty d).rxbuf = s.rxbuf := by
  unfold State.deliver; split
  · rfl
  · exact State.dispatch_rxbuf _ _ _

@[simp] theorem State.accept_rxbuf (s : State) (len : Nat) : (s.accept len).rxbuf = s.rxbuf.drop (len + 2) := by
  simp [State.accept]

theorem ParserStep.accept (s : State) (len : Nat) : ParserStep s (s.accept len) := by
  have h1 : ParserStep s { s.rxDrop (len + 2) with cntRxvalid := satInc s.cfg.cntBits s.cntRxvalid, rxAge := 0 } :=
    ⟨rfl, rfl, rfl, rfl, rfl, rfl, rfl, rfl, rfl, rfl, rfl, List.drop_suffix _ _, .inr rfl, ⟨[], by simp⟩, by
      have := satInc_le s.cfg.cntBits s.cntRxvalid
      simp [CountersFit]; tauto⟩
  exact h1.trans (.deliver _ _ _)

/-- An answer other than NEED_MORE is about a buffer that is not empty. -/
theorem ne_nil_of_frameAt {cfg : Cfg} {b : List Byte} (h : frameAt cfg b ≠ .needMore) : b ≠ [] := by
  rintro rfl; exact h rfl

/-- The framing loop, whatever its bound, only does what a `ParserStep` may. -/
theorem drainLoop_step (n : Nat) (s : State) : ParserStep s (drainLoop n s) := by
  induction n generalizing s with
  | zero => exact .refl s
  | succ n ih =>
    unfold drainLoop
    split
    · exact .refl s
    · exact (ParserStep.drop s 1).trans (ih _)
    · exact (ParserStep.dropLenerr s 1).trans (ih _)
    · exact (ParserStep.dropCrcerr s 1).trans (ih _)
    · exact (ParserStep.accept s _).trans (ih _)

/-- With a bound above the buffer's length the loop ends at NEED_MORE (R184). -/
theorem drainLoop_settled (n : Nat) (s : State) (h : s.rxbuf.length < n) :
    frameAt (drainLoop n s).cfg (drainLoop n s).rxbuf = .needMore := by
  induction n generalizing s with
  | zero => omega
  | succ n ih =>
    have pos : frameAt s.cfg s.rxbuf ≠ .needMore → 0 < s.rxbuf.length := fun hne =>
      List.length_pos_of_ne_nil (ne_nil_of_frameAt hne)
    unfold drainLoop
    split
    case h_1 heq => exact heq
    all_goals
      rename_i heq
      have := pos (by rw [heq]; simp)
      apply ih
      simp only [State.rxDrop_rxbuf, State.accept_rxbuf, List.length_drop]
      omega

/-- Any bound above the buffer's length gives the same result. -/
theorem drainLoop_fuel (n m : Nat) (s : State) (hn : s.rxbuf.length < n) (hm : s.rxbuf.length < m) :
    drainLoop n s = drainLoop m s := by
  induction n generalizing m s with
  | zero => omega
  | succ n ih =>
    cases m with
    | zero => omega
    | succ m =>
      have pos : frameAt s.cfg s.rxbuf ≠ .needMore → 0 < s.rxbuf.length := fun hne =>
        List.length_pos_of_ne_nil (ne_nil_of_frameAt hne)
      unfold drainLoop
      split
      case h_1 => rfl
      all_goals
        rename_i heq
        have := pos (by rw [heq]; simp)
        apply ih <;> (simp only [State.rxDrop_rxbuf, State.accept_rxbuf, List.length_drop]; omega)

theorem State.drain_step (s : State) : ParserStep s s.drain := drainLoop_step _ s

/-- After Drain the parser is settled. -/
theorem State.drain_settled (s : State) : frameAt s.drain.cfg s.drain.rxbuf = .needMore :=
  drainLoop_settled _ s (Nat.lt_succ_self _)

/-- A settled buffer is empty or starts with RX_SYNC. -/
theorem head_of_needMore {cfg : Cfg} {buf : List Byte} (h : frameAt cfg buf = .needMore) :
    buf = [] ∨ ∃ t, buf = cfg.rxSync :: t := by
  unfold frameAt at h
  split at h
  · exact .inl rfl
  · rename_i s0 t
    split at h
    · cases h
    · exact .inr ⟨t, by rename_i hs; rw [not_not.1 hs]⟩

/-- The overflow test leaves room for one byte and touches nothing but RXBUF and CNT_OVERFLOW. -/
theorem State.overflow_spec (s : State) :
    (s.cfg.rxBufMax ≤ s.rxbuf.length ∧
      s.overflow = { s with rxbuf := [], cntOverflow := satInc s.cfg.cntBits s.cntOverflow }) ∨
    (s.rxbuf.length < s.cfg.rxBufMax ∧ s.overflow = s) := by
  unfold State.overflow
  split
  · exact .inl ⟨‹_›, rfl⟩
  · exact .inr ⟨by omega, rfl⟩

/-- What a byte fed in ACTIVE can do: the overflow of a full buffer, the append, and a run of the loop that ends settled. -/
theorem State.feed_spec (s : State) (b : Byte) :
    ∃ u, ((s.cfg.rxBufMax ≤ s.rxbuf.length ∧
        u = { s with rxbuf := [b], cntOverflow := satInc s.cfg.cntBits s.cntOverflow }) ∨
      (s.rxbuf.length < s.cfg.rxBufMax ∧ u = s.rxAppend b)) ∧
      s.feed b = u.drain ∧ ParserStep u (s.feed b) ∧ frameAt (s.feed b).cfg (s.feed b).rxbuf = .needMore := by
  refine ⟨s.overflow.rxAppend b, ?_, rfl, State.drain_step _, State.drain_settled _⟩
  rcases s.overflow_spec with ⟨h, e⟩ | ⟨h, e⟩
  · exact .inl ⟨h, by rw [e]; rfl⟩
  · exact .inr ⟨h, by rw [e]⟩

@[simp] theorem State.receive_active {s : State} (h : s.lstate = .active) (b : Byte) : s.receive b = s.feed b := if_pos h

@[simp] theorem State.receive_other {s : State} (h : s.lstate ≠ .active) (b : Byte) : s.receive b = s := if_neg h

@[simp] theorem State.receiveAll_nil (s : State) : s.receiveAll [] = s := rfl

@[simp] theorem State.receiveAll_cons (s : State) (b : Byte) (bs : List Byte) :
    s.receiveAll (b :: bs) = (s.receive b).receiveAll bs := rfl

theorem State.receiveAll_append (s : State) (xs ys : List Byte) :
    s.receiveAll (xs ++ ys) = (s.receiveAll xs).receiveAll ys := List.foldl_append

/-- Outside ACTIVE a sequence of bytes is dropped whole. -/
theorem State.receiveAll_other {s : State} (h : s.lstate ≠ .active) (bs : List Byte) : s.receiveAll bs = s := by
  induction bs with
  | nil => rfl
  | cons b bs ih => rw [State.receiveAll_cons, State.receive_other h, ih]

/-! ## The parser reads neither the inbox nor the outputs it appends to (R24) -/

/-- The same block with other words waiting and more outputs before its own. -/
def State.inEnv (s : State) (w : List OpWord) (o : List OutEvent) : State := { s with inbox := w, outs := o ++ s.outs }

theorem State.dispatch_inEnv (s : State) (w : List OpWord) (o : List OutEvent) (k : Kind) (r : Record) :
    (s.inEnv w o).dispatch k r = (s.dispatch k r).inEnv w o := by
  have hs : (s.inEnv w o).slots = s.slots := rfl
  unfold State.dispatch
  rw [hs]
  split
  · rfl
  · simp only [State.emit, State.inEnv, List.append_assoc]

theorem State.deliver_inEnv (s : State) (w : List OpWord) (o : List OutEvent) (ty : Byte) (d : List Byte) :
    (s.inEnv w o).deliver ty d = (s.deliver ty d).inEnv w o := by
  have hc : (s.inEnv w o).cfg = s.cfg := rfl
  unfold State.deliver
  rw [hc]
  split
  · rfl
  · exact State.dispatch_inEnv s w o _ _

theorem State.accept_inEnv (s : State) (w : List OpWord) (o : List OutEvent) (len : Nat) :
    (s.inEnv w o).accept len = (s.accept len).inEnv w o :=
  State.deliver_inEnv { s.rxDrop (len + 2) with cntRxvalid := satInc s.cfg.cntBits s.cntRxvalid, rxAge := 0 } w o _ _

theorem drainLoop_inEnv (n : Nat) (s : State) (w : List OpWord) (o : List OutEvent) :
    drainLoop n (s.inEnv w o) = (drainLoop n s).inEnv w o := by
  induction n generalizing s with
  | zero => rfl
  | succ n ih =>
    have hf : frameAt (s.inEnv w o).cfg (s.inEnv w o).rxbuf = frameAt s.cfg s.rxbuf := rfl
    unfold drainLoop
    rw [hf]
    split
    · rfl
    · exact ih (s.rxDrop 1)
    · exact ih { s.rxDrop 1 with cntLenerr := satInc s.cfg.cntBits s.cntLenerr }
    · exact ih { s.rxDrop 1 with cntCrcerr := satInc s.cfg.cntBits s.cntCrcerr }
    · rw [State.accept_inEnv]; exact ih (s.accept _)

theorem State.receive_inEnv (s : State) (w : List OpWord) (o : List OutEvent) (b : Byte) :
    (s.inEnv w o).receive b = (s.receive b).inEnv w o := by
  by_cases ha : s.lstate = .active
  · rw [State.receive_active (show (s.inEnv w o).lstate = .active from ha), State.receive_active ha]
    have hov : (s.inEnv w o).overflow = s.overflow.inEnv w o := by
      by_cases h : s.cfg.rxBufMax ≤ s.rxbuf.length
      · rw [State.overflow, State.overflow, if_pos h,
          if_pos (show (s.inEnv w o).cfg.rxBufMax ≤ (s.inEnv w o).rxbuf.length from h)]
        rfl
      · rw [State.overflow, State.overflow, if_neg h,
          if_neg (show ¬(s.inEnv w o).cfg.rxBufMax ≤ (s.inEnv w o).rxbuf.length from h)]
    rw [State.feed, hov]
    exact drainLoop_inEnv _ (s.overflow.rxAppend b) w o
  · rw [State.receive_other (show (s.inEnv w o).lstate ≠ .active from ha), State.receive_other ha]

/-- What a fed sequence of bytes does to the block, and the outputs it appends, depend on neither. -/
theorem State.receiveAll_inEnv (s : State) (w : List OpWord) (o : List OutEvent) (bs : List Byte) :
    (s.inEnv w o).receiveAll bs = (s.receiveAll bs).inEnv w o := by
  induction bs generalizing s with
  | nil => rfl
  | cons b bs ih => rw [State.receiveAll_cons, State.receive_inEnv, ih, State.receiveAll_cons]

/-- A fed sequence of bytes touches only the parser's own elements, and only adds telemetry events of slots that hold their
tokens to the outputs (R180, R181). -/
theorem State.receiveAll_frame (s : State) (bs : List Byte) :
    (s.receiveAll bs = { s with
      rxbuf := (s.receiveAll bs).rxbuf
      rxAge := (s.receiveAll bs).rxAge
      cntRxvalid := (s.receiveAll bs).cntRxvalid
      cntCrcerr := (s.receiveAll bs).cntCrcerr
      cntLenerr := (s.receiveAll bs).cntLenerr
      cntOverflow := (s.receiveAll bs).cntOverflow
      cntIgnored := (s.receiveAll bs).cntIgnored
      outs := (s.receiveAll bs).outs }) ∧
    ∃ evs, (s.receiveAll bs).outs = s.outs ++ evs ∧ ∀ e ∈ evs, TlmFrom s.slots e := by
  induction bs generalizing s with
  | nil => exact ⟨rfl, [], by simp⟩
  | cons b bs ih =>
    rw [State.receiveAll_cons]
    by_cases ha : s.lstate = .active
    · rw [State.receive_active ha]
      obtain ⟨u, hu, -, hp, -⟩ := s.feed_spec b
      obtain ⟨i1, e2, h2, q2⟩ := ih (s.feed b)
      obtain ⟨e1, h1, q1⟩ := hp.outs
      have hus : u = { s with rxbuf := u.rxbuf, cntOverflow := u.cntOverflow } := by
        rcases hu with ⟨-, rfl⟩ | ⟨-, rfl⟩ <;> rfl
      have hsl : (s.feed b).slots = s.slots := by rw [hp.slots, hus]
      refine ⟨?_, e1 ++ e2, by rw [h2, h1, hus, List.append_assoc], fun e he => ?_⟩
      · rw [i1, State.mk.injEq, Block.mk.injEq]
        exact ⟨⟨by rw [hp.lstate, hus], by rw [hp.initResult, hus], by rw [hp.ch, hus], hsl, rfl, rfl,
          by rw [hp.txCnt, hus], by rw [hp.connCnt, hus], by rw [hp.cntTxframes, hus], by rw [hp.cntTxerr, hus],
          rfl, rfl, rfl, rfl, rfl⟩, by rw [hp.cfg, hus], by rw [hp.inbox, hus], rfl⟩
      · rcases List.mem_append.1 he with he | he
        · have := q1 e he; rwa [hus] at this
        · have := q2 e he; rwa [hsl] at this
    · rw [State.receive_other ha]; exact ih s

end Sys2Proof.Machine
end

