-- ==== Sys2Proof/Laws/Exec.lean ====
section
/-! SUPPORT. What one instruction can do, said once for a whole shape of instructions. -/

namespace Sys2Proof.Machine

/-- Rejecting at the start of a step: the state before, with the response as its only output. -/
@[simp] theorem State.begin_raise (s : State) (e : BlockError) :
    s.begin.raise e = { s with outs := [.resp (e.code s.cfg)] } := rfl

/-- Every instruction of every state answers a next state. -/
theorem exec_answers_next (i : Instr) (s : State) : ∃ t, exec i s = .next t := by
  cases i <;> exact ⟨_, rfl⟩

/-- RX_BYTE and the wire frames are a fed sequence of bytes. -/
theorem exec_inbound {i : Instr} (hi : (∃ b, i = .rxByte b) ∨ i.isOperation = false) (s : State) :
    ∃ bs, exec i s = .next (s.begin.receiveAll bs) := by
  rcases hi with ⟨b, rfl⟩ | hi
  · exact ⟨[b], rfl⟩
  · cases i <;> first | cases hi; done | exact ⟨_, rfl⟩

/-- A wire frame is fed as its encoding. -/
theorem exec_frame {i : Instr} (hi : i.isOperation = false) (s : State) :
    exec i s = .next (s.begin.receiveAll (encode s.cfg i)) := by
  cases i <;> first | cases hi; done | rfl

end Sys2Proof.Machine
end

