-- ==== Sys2Proof/Laws/Memory.lean ====
section
/-! SUPPORT. The receive buffer's form: every memory operation keeps it, and the reset state has it. -/

namespace Sys2Proof.Machine

theorem Memory.wf_iff (cap : Nat) (m : Memory) : m.wf cap = true ↔ m.length ≤ cap := by simp [Memory.wf]

theorem Memory.wf_nil (cap : Nat) : Memory.wf cap [] = true := by simp [Memory.wf]

/-- A part of the buffer at its tail has the form. -/
theorem Memory.wf_suffix {cap : Nat} {m n : Memory} (h : n <:+ m) (hm : m.wf cap = true) : n.wf cap = true := by
  rw [Memory.wf_iff] at *
  exact h.length_le.trans hm

theorem State.rxDrop_wf {s : State} (n : Nat) (h : Memory.wf s.cfg.rxBufMax s.rxbuf = true) :
    Memory.wf s.cfg.rxBufMax (s.rxDrop n).rxbuf = true := Memory.wf_suffix (List.drop_suffix _ _) h

theorem State.rxClear_wf (s : State) : Memory.wf s.cfg.rxBufMax s.rxClear.rxbuf = true := Memory.wf_nil _

theorem State.rxAppend_wf {s : State} (b : Byte) (h : s.rxbuf.length < s.cfg.rxBufMax) :
    Memory.wf s.cfg.rxBufMax (s.rxAppend b).rxbuf = true := by
  simp only [Memory.wf_iff, State.rxAppend_rxbuf, List.length_append, List.length_singleton]; omega

/-- Feeding a byte keeps the form, from any buffer: a full one is emptied first. -/
theorem State.feed_wf (s : State) (b : Byte) (hcap : 1 ≤ s.cfg.rxBufMax) :
    Memory.wf s.cfg.rxBufMax (s.feed b).rxbuf = true := by
  obtain ⟨u, hu, -, hp, -⟩ := s.feed_spec b
  have hw : Memory.wf s.cfg.rxBufMax u.rxbuf = true := by
    rcases hu with ⟨-, rfl⟩ | ⟨hl, rfl⟩
    · rw [Memory.wf_iff]; exact hcap
    · exact State.rxAppend_wf b hl
  exact Memory.wf_suffix hp.rxbuf hw

theorem reset_memory_wf : Memory.wf State.reset.cfg.rxBufMax State.reset.rxbuf = true := by decide

/-- A byte at an offset the buffer keeps after dropping `n` bytes is the byte `n` further on before (R41). -/
theorem State.readRx_rxDrop (s : State) (n a : Nat) : (s.rxDrop n).readRx a = s.readRx (n + a) := by
  simp [State.readRx]

/-- Appending leaves every byte already held where it was (R41). -/
theorem State.readRx_rxAppend {s : State} (b : Byte) {a : Nat} (h : a < s.rxbuf.length) :
    (s.rxAppend b).readRx a = s.readRx a := by
  simp [State.readRx, List.getElem?_append_left h]

end Sys2Proof.Machine
end

