-- ==== Sys2Proof/Laws/PerInstr.lean ====
section
/-! SUPPORT. For every instruction: its encoding has the length of its opcode table row and the row's fixed byte in its place. -/

namespace Sys2Proof.Laws.EncodingShape

/-- The "length_bytes" column of spec/opcode_table.json. -/
def tableLength (cfg : Cfg) : Instr → Nat
  | .init port _ => 6 + port.length
  | .close => 1
  | .setAll vs => 2 + 4 * vs.length
  | .setOne _ _ => 9
  | .arm => 1
  | .disarm => 1
  | .isActive => 1
  | .regLinkstats _ _ => 6
  | .regBattery _ _ => 6
  | .regGps _ _ => 6
  | .regAttitude _ _ => 6
  | .reset => 1
  | .openResult _ => 2
  | .tick _ => 2
  | .rxByte _ => 2
  | .illegal w => w.length
  | .frameRcChannels _ => cfg.packedLen + 4
  | .frameGps _ _ _ _ _ _ rest => 19 + rest.length
  | .frameBattery _ _ _ _ rest => 12 + rest.length
  | .frameLinkstats _ _ _ _ rest => 8 + rest.length
  | .frameAttitude _ _ _ rest => 10 + rest.length
  | .frameUnknown _ data => data.length + 4

/-- The "match" column: the offset of the row's fixed byte (the opcode, or a frame's type byte) and its value. -/
def fixedByte (cfg : Cfg) : Instr → Option (Nat × Byte)
  | .init _ _ => some (0, 0x01)
  | .close => some (0, 0x02)
  | .setAll _ => some (0, 0x03)
  | .setOne _ _ => some (0, 0x04)
  | .arm => some (0, 0x05)
  | .disarm => some (0, 0x06)
  | .isActive => some (0, 0x07)
  | .regLinkstats _ _ => some (0, 0x08)
  | .regBattery _ _ => some (0, 0x09)
  | .regGps _ _ => some (0, 0x0A)
  | .regAttitude _ _ => some (0, 0x0B)
  | .reset => some (0, 0x80)
  | .openResult _ => some (0, 0x81)
  | .tick _ => some (0, 0x82)
  | .rxByte _ => some (0, 0x83)
  | .illegal _ => none
  | .frameRcChannels _ => some (2, cfg.typeRc)
  | .frameGps _ _ _ _ _ _ _ => some (2, cfg.typeGps)
  | .frameBattery _ _ _ _ _ => some (2, cfg.typeBattery)
  | .frameLinkstats _ _ _ _ _ => some (2, cfg.typeLinkstats)
  | .frameAttitude _ _ _ _ => some (2, cfg.typeAttitude)
  | .frameUnknown ty _ => some (2, ty)

/-- The shape of an instruction's encoding under every configuration. -/
def Statement (i : Instr) : Prop :=
  ∀ cfg : Cfg, (encode cfg i).length = tableLength cfg i ∧
    ∀ p, fixedByte cfg i = some p → (encode cfg i)[p.1]? = some p.2

/-- A frame's shape. -/
theorem frame_shape (cfg : Cfg) (ty : Byte) (data : List Byte) (n : Nat) (hn : data.length + 4 = n) :
    (inboundFrame cfg ty data).length = n ∧
      ∀ p, some (2, ty) = some p → (inboundFrame cfg ty data)[p.1]? = some p.2 := by
  refine ⟨by rw [inboundFrame, encodeFrame_length, hn], ?_⟩
  rintro p ⟨⟩
  rfl

theorem init (port : List Byte) (baud : Word32) : Statement (.init port baud) := fun _ =>
  ⟨by simp [encode, tableLength]; omega, by rintro p ⟨⟩; rfl⟩

theorem close : Statement .close := fun _ => ⟨rfl, by rintro p ⟨⟩; rfl⟩

theorem setAll (vs : List Word32) : Statement (.setAll vs) := fun _ =>
  ⟨by simp only [encode, tableLength, List.length_cons, flatMap_bytes32_length]; omega, by rintro p ⟨⟩; rfl⟩

theorem setOne (index value : Word32) : Statement (.setOne index value) := fun _ => ⟨rfl, by rintro p ⟨⟩; rfl⟩

theorem arm : Statement .arm := fun _ => ⟨rfl, by rintro p ⟨⟩; rfl⟩

theorem disarm : Statement .disarm := fun _ => ⟨rfl, by rintro p ⟨⟩; rfl⟩

theorem isActive : Statement .isActive := fun _ => ⟨rfl, by rintro p ⟨⟩; rfl⟩

theorem regLinkstats (present : Bool) (token : Token) : Statement (.regLinkstats present token) := fun _ =>
  ⟨rfl, by rintro p ⟨⟩; rfl⟩

theorem regBattery (present : Bool) (token : Token) : Statement (.regBattery present token) := fun _ =>
  ⟨rfl, by rintro p ⟨⟩; rfl⟩

theorem regGps (present : Bool) (token : Token) : Statement (.regGps present token) := fun _ =>
  ⟨rfl, by rintro p ⟨⟩; rfl⟩

theorem regAttitude (present : Bool) (token : Token) : Statement (.regAttitude present token) := fun _ =>
  ⟨rfl, by rintro p ⟨⟩; rfl⟩

theorem reset : Statement .reset := fun _ => ⟨rfl, by rintro p ⟨⟩; rfl⟩

theorem openResult (r : OpenResult) : Statement (.openResult r) := fun _ => ⟨rfl, by rintro p ⟨⟩; rfl⟩

theorem tick (wrOk : Bool) : Statement (.tick wrOk) := fun _ => ⟨rfl, by rintro p ⟨⟩; rfl⟩

theorem rxByte (b : Byte) : Statement (.rxByte b) := fun _ => ⟨rfl, by rintro p ⟨⟩; rfl⟩

theorem illegal (w : OpWord) : Statement (.illegal w) := fun _ => ⟨rfl, by rintro p ⟨⟩⟩

theorem frameRcChannels (ch : List Nat) : Statement (.frameRcChannels ch) := fun cfg =>
  frame_shape cfg _ _ _ (by rw [packChannels_length, tableLength])

theorem frameGps (lat lon : BitVec 32) (gspd heading alt : BitVec 16) (sats : Byte) (rest : List Byte) :
    Statement (.frameGps lat lon gspd heading alt sats rest) := fun cfg =>
  frame_shape cfg _ _ _ (by rw [gpsData_length, tableLength]; omega)

theorem frameBattery (voltage current : BitVec 16) (capacity : BitVec 24) (remaining : Byte) (rest : List Byte) :
    Statement (.frameBattery voltage current capacity remaining rest) := fun cfg =>
  frame_shape cfg _ _ _ (by rw [batteryData_length, tableLength]; omega)

theorem frameLinkstats (rssi1 rssi2 lq snr : Byte) (rest : List Byte) :
    Statement (.frameLinkstats rssi1 rssi2 lq snr rest) := fun cfg =>
  frame_shape cfg _ _ _ (by rw [linkstatsData_length, tableLength]; omega)

theorem frameAttitude (pitch roll yaw : BitVec 16) (rest : List Byte) :
    Statement (.frameAttitude pitch roll yaw rest) := fun cfg =>
  frame_shape cfg _ _ _ (by rw [attitudeData_length, tableLength]; omega)

theorem frameUnknown (ty : Byte) (data : List Byte) : Statement (.frameUnknown ty data) := fun cfg =>
  frame_shape cfg _ _ _ rfl

end Sys2Proof.Laws.EncodingShape
end

