-- ==== Sys2Proof/Tests/Slice0.lean ====
section
/-! SUPPORT. Own tests: an ill-formed term for each check of WellFormed, the decoding of every row from words and frames of 95_test_vectors.md, one step of every instruction, and for each statement with hypotheses a concrete case that meets them. -/

namespace Sys2Proof.Tests

open Sys2Proof.Machine

/-! ## Helpers -/

/-- The block just after OPEN_RESULT UP. -/
def active0 : State := { State.reset with lstate := .active, initResult := .ok }

/-- The block just after INIT. -/
def connecting0 : State := { State.reset with lstate := .connecting }

/-- The block after CLOSE. -/
def closed0 : State := { State.reset with lstate := .closed, initResult := .ok }

/-- ACTIVE with all four handlers, as in 95_test_vectors.md section 2.7. -/
def listening0 : State := { active0 with slots := ⟨some 0xA0, some 0xA1, some 0xA2, some 0xA3⟩ }

/-- CFG_TEST with the small buffer of V-OVF. -/
def smallCfg : Cfg := { Cfg.test with rxBufMax := 12, lenMax := 255 }

/-- The state one instruction answers with. -/
def after (i : Instr) (s : State) : State :=
  match exec i s with
  | .next t => t
  | .fault _ => s
  | .refused _ => s

/-- The outputs and one field of the state one instruction answers with. -/
def see {α : Type} (f : State → α) (i : Instr) (s : State) : List OutEvent × α := ((after i s).outs, f (after i s))

/-- The instruction of an operation word, if it is one. -/
def instrOf (w : OpWord) : Option Instr := (decodeWord w).toOption

def lsFrame : List Byte := [0xC8, 0x0C, 0x14, 0xB0, 0xB5, 0x64, 0x0A, 0x00, 0x04, 0x03, 0xBA, 0x63, 0x08, 0x9A]
def lsInstr : Instr := .frameLinkstats 0xB0 0xB5 0x64 0x0A [0x00, 0x04, 0x03, 0xBA, 0x63, 0x08]
def batInstr : Instr := .frameBattery 168 123 1500 75 []
def gpsInstr : Instr := .frameGps 473977420 85455940 360 9000 1488 12 []
def attInstr : Instr := .frameAttitude 1000 (-2500) 31415 []
def unkInstr : Instr := .frameUnknown 0x21 [0x41, 0x43, 0x52, 0x4F, 0x00]
def rcInstr : Instr := .frameRcChannels (List.replicate 16 992)

/-! ## WellFormed: each check refuses -/

theorem test_wf_init_port : (Instr.init (List.replicate 256 0) 0).wf Cfg.test = false := by decide +kernel
theorem test_wf_setAll_count : (Instr.setAll (List.replicate 256 0)).wf Cfg.test = false := by decide +kernel
theorem test_wf_illegal_event : (Instr.illegal [0x84]).wf Cfg.test = false := by decide
theorem test_wf_illegal_command : (Instr.illegal [0x02]).wf Cfg.test = false := by decide
theorem test_wf_rc_count : (Instr.frameRcChannels (List.replicate 15 0)).wf Cfg.test = false := by decide
theorem test_wf_rc_value : (Instr.frameRcChannels (2048 :: List.replicate 15 0)).wf Cfg.test = false := by decide
theorem test_wf_rc_length : rcInstr.wf { Cfg.test with lenMax := 23 } = false := by decide
theorem test_wf_gps_min : gpsInstr.wf { Cfg.test with minGps := 16 } = false := by decide
theorem test_wf_gps_length : (Instr.frameGps 0 0 0 0 0 0 (List.replicate 46 0)).wf Cfg.test = false := by decide
theorem test_wf_battery_min : batInstr.wf { Cfg.test with minBattery := 9 } = false := by decide
theorem test_wf_battery_length : (Instr.frameBattery 0 0 0 0 (List.replicate 53 0)).wf Cfg.test = false := by decide
theorem test_wf_linkstats_min : (Instr.frameLinkstats 0 0 0 0 (List.replicate 5 0)).wf Cfg.test = false := by decide
theorem test_wf_linkstats_length : (Instr.frameLinkstats 0 0 0 0 (List.replicate 57 0)).wf Cfg.test = false := by decide
theorem test_wf_attitude_min : attInstr.wf { Cfg.test with minAttitude := 7 } = false := by decide
theorem test_wf_attitude_length : (Instr.frameAttitude 0 0 0 (List.replicate 55 0)).wf Cfg.test = false := by decide
theorem test_wf_unknown_type : ([(0x14, 10), (0x08, 8), (0x02, 15), (0x1E, 6), (0x16, 22)] : List (Byte × Nat)).all
    (fun p => !(Instr.frameUnknown p.1 (List.replicate p.2 0)).wf Cfg.test) = true := by decide
theorem test_wf_unknown_length : (Instr.frameUnknown 0x7F (List.replicate 61 0)).wf Cfg.test = false := by decide
theorem test_wf_cfg : (Cfg.wf { Cfg.test with nch := 17 } || Cfg.wf { Cfg.test with txPeriod := 0 } ||
    Cfg.wf { Cfg.test with minGps := 14 } || Cfg.wf { Cfg.test with armCh := 5 } || Cfg.wf { Cfg.test with typeGps := 0x14 }) = false := by decide

/-! ## Decoding, words of 95_test_vectors.md section 2.4 -/

theorem test_decode_init : instrOf [0x01, 0x06, 0x70, 0x6F, 0x72, 0x74, 0x2D, 0x41, 0x00, 0x0E, 0x10, 0x00] =
    some (.init [0x70, 0x6F, 0x72, 0x74, 0x2D, 0x41] 921600) := by decide
theorem test_decode_init_negative : instrOf [0x01, 0x01, 0x71, 0xFF, 0xFF, 0xFF, 0xFF] = some (.init [0x71] (-1)) := by
  decide
theorem test_decode_close : instrOf [0x02] = some .close := by decide
theorem test_decode_setAll : instrOf [0x03, 0x02, 0x00, 0x00, 0x00, 0x64, 0x00, 0x00, 0x05, 0xDC] =
    some (.setAll [100, 1500]) := by decide
theorem test_decode_setOne : instrOf [0x04, 0x00, 0x00, 0x00, 0x04, 0x00, 0x00, 0x07, 0xC0] = some (.setOne 4 1984) := by
  decide
theorem test_decode_setOne_negative : instrOf [0x04, 0xFF, 0xFF, 0xFF, 0xFF, 0x00, 0x00, 0x00, 0x05] =
    some (.setOne (-1) 5) := by decide
theorem test_decode_arm : [0x05, 0x06, 0x07].map (fun b => instrOf [b]) = [some .arm, some .disarm, some .isActive] := by
  decide
theorem test_decode_regs : [0x08, 0x09, 0x0A, 0x0B].map (fun b => instrOf [b, 0x01, 0x00, 0x00, 0x00, 0x11]) =
    [some (.regLinkstats true 0x11), some (.regBattery true 0x11), some (.regGps true 0x11),
      some (.regAttitude true 0x11)] := by decide
theorem test_decode_reg_none : instrOf [0x0A, 0x00, 0x00, 0x00, 0x00, 0x00] = some (.regGps false 0) := by decide
theorem test_decode_reset : instrOf [0x80] = some .reset := by decide
theorem test_decode_openResult : [0x00, 0x01, 0x02, 0x03].map (fun b => instrOf [0x81, b]) =
    [some (.openResult .up), some (.openResult .deviceUnavailable), some (.openResult .configError), none] := by decide
theorem test_decode_tick : [0x00, 0x01, 0x02].map (fun b => instrOf [0x82, b]) =
    [some (.tick false), some (.tick true), none] := by decide
theorem test_decode_rxByte : instrOf [0x83, 0xC8] = some (.rxByte 0xC8) := by decide
theorem test_decode_illegal : [[0x00], [0x0C], [0x7F], [0x02, 0x00], [0x04, 0x00, 0x00],
    [0x08, 0x02, 0x00, 0x00, 0x00, 0x00]].map instrOf =
    [some (.illegal [0x00]), some (.illegal [0x0C]), some (.illegal [0x7F]), some (.illegal [0x02, 0x00]),
      some (.illegal [0x04, 0x00, 0x00]), some (.illegal [0x08, 0x02, 0x00, 0x00, 0x00, 0x00])] := by decide
theorem test_decode_refused : [[0x84], [0x81, 0x03], [0x82, 0x02], [0x83], []].map instrOf =
    [none, none, none, none, none] := by decide

/-! ## Decoding, frames of 95_test_vectors.md section 2.3 -/

theorem test_decode_frameLinkstats : decodeFrame Cfg.test lsFrame = some lsInstr := by decide +kernel
theorem test_decode_frameBattery : decodeFrame Cfg.test
    [0xC8, 0x0A, 0x08, 0x00, 0xA8, 0x00, 0x7B, 0x00, 0x05, 0xDC, 0x4B, 0x29] = some batInstr := by decide +kernel
theorem test_decode_frameGps : decodeFrame Cfg.test [0xC8, 0x11, 0x02, 0x1C, 0x40, 0x52, 0x4C, 0x05, 0x17, 0xF4, 0x44, 0x01,
    0x68, 0x23, 0x28, 0x05, 0xD0, 0x0C, 0x88] = some gpsInstr := by decide +kernel
theorem test_decode_frameAttitude : decodeFrame Cfg.test
    [0xC8, 0x08, 0x1E, 0x03, 0xE8, 0xF6, 0x3C, 0x7A, 0xB7, 0x58] = some attInstr := by decide +kernel
theorem test_decode_frameUnknown : decodeFrame Cfg.test [0xC8, 0x07, 0x21, 0x41, 0x43, 0x52, 0x4F, 0x00, 0x80] =
    some unkInstr := by decide +kernel
theorem test_decode_frameShort : decodeFrame Cfg.test [0xC8, 0x05, 0x14, 0xB0, 0xB5, 0x64, 0xC2] =
    some (.frameUnknown 0x14 [0xB0, 0xB5, 0x64]) := by decide +kernel
theorem test_decode_frameRc : decodeFrame Cfg.test [0xC8, 0x18, 0x16, 0xE0, 0x03, 0x1F, 0xF8, 0xC0, 0x07, 0x3E, 0xF0, 0x81,
    0x0F, 0x7C, 0xE0, 0x03, 0x1F, 0xF8, 0xC0, 0x07, 0x3E, 0xF0, 0x81, 0x0F, 0x7C, 0xAD] = some rcInstr := by
  decide +kernel
theorem test_frameAt : [[], [0xC8], [0x00, 0xC8], [0xC8, 0x01], [0xC8, 0x3F], [0xC8, 0x0C, 0x14], [0xC8, 0x02, 0x3A, 0xA1],
    [0xC8, 0x02, 0x3A, 0xA0, 0xFF, 0xFF]].map (frameAt Cfg.test) =
    [.needMore, .needMore, .badSync, .badLen, .badLen, .needMore, .badCrc, .valid 2] := by decide

/-! ## One step of every instruction -/

/-- V-CMD-9. -/
theorem test_reset : see (fun t => (t.lstate, t.readCh 0, t.rxbuf, t.cntRxvalid)) .reset
    { active0 with ch := Vector.replicate 16 5, rxbuf := [0xC8, 0x0C], cntRxvalid := 3 } = ([], .uninit, 992, [], 0) := by
  decide
/-- V-CMD-10. -/
theorem test_init : see (fun t => (t.lstate, t.readCh 0, t.cntRxvalid)) (.init [0x70] 1)
    { closed0 with ch := Vector.replicate 16 5, cntRxvalid := 3 } = ([.openReq [0x70] 1], .connecting, 992, 0) := by decide
/-- V-CMD-1. -/
theorem test_init_twice : see (fun t => t.lstate) (.init [0x78] 1) active0 = ([.resp (-1)], .active) := by decide
/-- V-TICK-5 and P4. -/
theorem test_openResult : see (fun t => t.lstate) (.openResult .up) connecting0 = ([.initDone 0], .active) ∧
    see (fun t => t.lstate) (.openResult .configError) connecting0 = ([.initDone (-2)], .closed) := by decide
/-- P4: a late answer is ignored. -/
theorem test_openResult_late : see (fun t => t.lstate) (.openResult .up) closed0 = ([], .closed) := by decide
/-- V-CMD-2c. -/
theorem test_close : see (fun t => t.lstate) .close active0 = ([.xportClose, .resp 0], .closed) := by decide
/-- V-CMD-2b. -/
theorem test_close_idle : see (fun t => t.lstate) .close connecting0 = ([.resp 0], .connecting) := by decide
/-- V-CMD-3. -/
theorem test_setAll : see (fun t => (t.readCh 1, t.readCh 15, t.armed))
    (.setAll [0, 1984, 992, 1, 1983, 991, 993, 172, 1811, 191, 1792, 1000, 1500, 2, 1024, 1023]) active0 =
    ([.resp 0], 1984, 1023, true) := by decide
/-- V-CMD-4. -/
theorem test_setAll_range : see (fun t => t.readCh 0) (.setAll (List.replicate 15 5 ++ [1985])) active0 =
    ([.resp (-4)], 992) := by decide
/-- V-CMD-5. -/
theorem test_setOne : see (fun t => t.readCh 15) (.setOne 15 1984) active0 = ([.resp 0], 1984) := by decide
/-- V-CMD-5. -/
theorem test_setOne_range : [(16, 5), (-1, 5), (3, -1), (3, 1985)].map
    (fun p => see (fun t => t.readCh 3) (.setOne p.1 p.2) active0) = List.replicate 4 ([.resp (-4)], 992) := by decide
/-- V-CMD-6. -/
theorem test_arm : see (fun t => (t.readCh 4, t.readCh 5, t.armed)) .arm active0 = ([.resp 0], 1984, 992, true) := by decide
/-- V-CMD-6. -/
theorem test_disarm : see (fun t => (t.readCh 4, t.armed)) .disarm (after .arm active0) = ([.resp 0], 0, false) := by decide
/-- V-TICK-6. -/
theorem test_isActive : [10, 11].map (fun n => (after .isActive { active0 with rxAge := n }).outs) =
    [[.respBool true], [.respBool false]] := by decide
/-- V-CMD-8. -/
theorem test_registration : ((after (.regLinkstats true 1) active0).slots, (after (.regBattery true 2) active0).slots,
    (after (.regGps true 3) active0).slots, (after (.regAttitude false 4) listening0).slots) =
    (⟨some 1, none, none, none⟩, ⟨none, some 2, none, none⟩, ⟨none, none, some 3, none⟩,
      ⟨some 0xA0, some 0xA1, some 0xA2, none⟩) := by decide
/-- V-CMD-8b. -/
theorem test_registration_closed : see (fun t => t.slots) (.regAttitude true 4) closed0 =
    ([.resp (-5)], ⟨none, none, none, none⟩) := by decide
/-- V-OP-16. -/
theorem test_illegal : (after (.illegal [0x00]) State.reset).outs = [.resp (-4)] := by decide
/-- V-TICK-2. -/
theorem test_tick_sends : see (fun t => (t.txCnt, t.cntTxframes, t.cntTxerr)) (.tick false) active0 =
    ([.txFrame [0xC8, 0x18, 0x16, 0xE0, 0x03, 0x1F, 0xF8, 0xC0, 0x07, 0x3E, 0xF0, 0x81, 0x0F, 0x7C, 0xE0, 0x03, 0x1F, 0xF8,
      0xC0, 0x07, 0x3E, 0xF0, 0x81, 0x0F, 0x7C, 0xAD]], 3, 1, 1) := by decide +kernel
/-- V-TICK-4. -/
theorem test_tick_timeout : see (fun t => (t.lstate, t.initResult, t.connCnt)) (.tick true) { connecting0 with connCnt := 4 } =
    ([.xportClose, .initDone (-3)], .closed, .timeout, 5) := by decide
/-- V-RX-2: the last byte of LS. -/
theorem test_rxByte : see (fun t => (t.rxbuf, t.rxAge, t.cntRxvalid)) (.rxByte 0x9A)
    { listening0 with rxbuf := lsFrame.dropLast } = ([.tlm .linkstats 0xA0 (.linkStats (-80) (-75) 100 10)], [], 0, 1) := by
  decide +kernel
/-- V-OVF. -/
theorem test_rxByte_overflow : see (fun t => (t.rxbuf, t.cntOverflow)) (.rxByte 0xC8)
    { active0 with cfg := smallCfg, rxbuf := [0xC8, 0x20, 1, 2, 3, 4, 5, 6, 7, 8, 9, 10] } = ([], [0xC8], 1) := by decide
/-- V-RX-2 as one FEED. -/
theorem test_frameLinkstats : (after lsInstr listening0).outs =
    [.tlm .linkstats 0xA0 (.linkStats (-80) (-75) 100 10)] := by decide +kernel
/-- BATX of section 2.3: both 16-bit fields unsigned, a sync byte inside. -/
theorem test_frameBattery : (after (.frameBattery 65535 32768 0x010203 200 []) listening0).outs =
    [.tlm .battery 0xA1 (.battery 65535 32768 200)] := by decide +kernel
/-- GPS2 of section 2.3: a negative altitude. -/
theorem test_frameGps : (after (.frameGps (-338688000) 1512093000 0 0 950 0 []) listening0).outs =
    [.tlm .gps 0xA2 (.gps (-338688000) 1512093000 (-50) 0 0)] := by decide +kernel
/-- ATTX of section 2.3. -/
theorem test_frameAttitude : (after (.frameAttitude 0x8000 0x7FFF 0xFFFF []) listening0).outs =
    [.tlm .attitude 0xA3 (.attitude (-32768) 32767 (-1))] := by decide +kernel
/-- UNK of section 2.3. -/
theorem test_frameUnknown : see (fun t => (t.cntRxvalid, t.cntIgnored, t.rxAge)) unkInstr listening0 = ([], 1, 1, 0) := by
  decide +kernel
/-- V-RX-11. -/
theorem test_frameRcChannels : see (fun t => (t.cntRxvalid, t.cntIgnored)) rcInstr listening0 = ([], 1, 1) := by
  decide +kernel
/-- A step from the post-RESET state runs the word put first. -/
theorem test_fetch : decodeTableWord 8 0x05 = some .arm ∧ decodeTableWord 16 0x0182 = some (.tick true) ∧
    (State.reset.withFetchWord 8 0x07).inbox = [[0x07]] := by decide
/-- R76. -/
theorem test_trace : traceLine Cfg.test (.tick true) = "TICK ok" ∧ eventText (.resp (-4)) = "RESP(-4)" := by
  decide +kernel

/-! ## Witnesses: for each statement with hypotheses a concrete case that meets them, at the boundaries of each clause -/

theorem witness_ResetGivesThePostResetState : listening0.cfg.wf = true ∧ 992 ≤ listening0.cfg.armThreshold ∧
    ∃ t, exec .reset listening0 = .next t := ⟨by decide, by decide, _, rfl⟩
theorem witness_PostResetStateIsLegal : Cfg.test.wf = true ∧ smallCfg.wf = true := by decide
theorem witness_InitOpensOrIsRejected : [State.reset, closed0, connecting0, active0].map
    (fun s => (s.cfg.wf, s.lstate)) = [(true, .uninit), (true, .closed), (true, .connecting), (true, .active)] := by decide
theorem witness_OpenResultResolvesInit : active0.cfg.wf = true ∧ active0.lstate ≠ .connecting ∧
    connecting0.lstate = .connecting ∧ connecting0.cfg.wf = true ∧ OpenResult.deviceUnavailable ≠ .up ∧
    ∃ t, exec (.openResult .up) connecting0 = .next t := ⟨by decide, by decide, by decide, by decide, by decide, _, rfl⟩
theorem witness_CloseEndsAnActiveLink : active0.cfg.wf = true ∧ active0.lstate = .active ∧ State.reset.cfg.wf = true ∧
    State.reset.lstate ≠ .active ∧ ∃ t, exec .close active0 = .next t := ⟨by decide, by decide, by decide, by decide, _, rfl⟩
theorem witness_LinkMovesOnlyByTheTable : ([(.reset, active0), (.init [] 0, State.reset), (.init [] 0, closed0),
    (.openResult .up, connecting0), (.openResult .configError, connecting0), (.tick true, { connecting0 with connCnt := 4 }),
    (.tick true, { connecting0 with connCnt := 3 }), (.close, active0), (.arm, active0)] : List (Instr × State)).all
    (fun p => p.2.cfg.wf && p.2.legal && (match exec p.1 p.2 with | .next _ => true | _ => false)) = true := by
  decide +kernel
theorem witness_ConnectTimeoutFiresAtTheLastTick : closed0.cfg.wf = true ∧ closed0.lstate = .closed ∧
    ([true, false, true, true] : List Bool).length < closed0.cfg.connectTimeout ∧
    ([true, false, true, true, true] : List Bool).length = closed0.cfg.connectTimeout := by decide
theorem witness_SetAllIsAllOrNothing : active0.cfg.wf = true ∧ closed0.lstate ≠ .active ∧ active0.lstate = .active ∧
    (List.replicate 17 (0 : Word32)).length ≠ 16 ∧ (1985 : Word32).toInt > 1984 ∧ (-1 : Word32).toInt < 0 ∧
    (List.replicate 15 0 ++ [1984] : List Word32).length = 16 ∧
    ∀ v ∈ (List.replicate 15 0 ++ [1984] : List Word32), 0 ≤ v.toInt ∧ v.toInt ≤ 1984 :=
  ⟨by decide, by decide, by decide, by decide, by decide, by decide, by decide, fun v hv => of_decide_eq_true
    (List.all_eq_true.1 (by decide : (List.replicate 15 0 ++ [1984] : List Word32).all
      (fun v => decide (0 ≤ v.toInt ∧ v.toInt ≤ 1984)) = true) v hv)⟩
theorem witness_SetOneStoresOneChannel : active0.cfg.wf = true ∧ closed0.lstate ≠ .active ∧ active0.lstate = .active ∧
    (16 : Word32).toInt > 15 ∧ (-1 : Word32).toInt < 0 ∧ (1985 : Word32).toInt > 1984 ∧
    (0 ≤ (15 : Word32).toInt ∧ (15 : Word32).toInt ≤ 15) ∧ 0 ≤ (1984 : Word32).toInt ∧ (1984 : Word32).toInt ≤ 1984 := by
  decide
theorem witness_ArmWritesArmHigh : active0.cfg.wf = true ∧ active0.lstate = .active ∧ State.reset.lstate ≠ .active := by decide
theorem witness_DisarmWritesArmLow : (after .arm active0).cfg.wf = true ∧ (after .arm active0).lstate = .active ∧
    closed0.lstate ≠ .active := by decide
theorem witness_RegistrationReplacesItsSlot : listening0.cfg.wf = true ∧ listening0.lstate = .active ∧
    connecting0.lstate ≠ .active := by decide
theorem witness_StateErrorGuardsStoreAndRegistry : closed0.lstate ≠ .active ∧ needsActive (.setOne 16 0) = true ∧
    needsActive .close = false ∧
    closed0.cfg.rcStateError ∉ [closed0.cfg.rcOk, closed0.cfg.rcAlreadyInitialized, closed0.cfg.rcConfigError] ∧
    ∃ t, exec .close closed0 = .next t := ⟨by decide, rfl, rfl, by decide, _, rfl⟩
theorem witness_RejectedCommandChangesNothing : ∃ t, exec (.setOne 16 5) active0 = .next t ∧
    OutEvent.resp (-4) ∈ t.outs ∧ (-4 : Code) ≠ active0.cfg.rcOk := ⟨_, rfl, by decide, by decide⟩
theorem witness_TickIdlesOutsideTheLink : State.reset.lstate = .uninit ∧ closed0.lstate = .closed := by decide
theorem witness_TickCountsTheConnectTimeout : connecting0.cfg.wf = true ∧ connecting0.lstate = .connecting ∧
    3 + 1 < connecting0.cfg.connectTimeout ∧ connecting0.cfg.connectTimeout ≤ 4 + 1 := by decide
theorem witness_TickAgesAndTransmits : active0.lstate = .active ∧ active0.txCnt = 0 ∧
    (after (.tick true) active0).lstate = .active ∧ (after (.tick true) active0).txCnt ≠ 0 := by decide
theorem witness_OnlyTheRateGateEmitsFrames : ∃ t f, exec (.tick true) active0 = .next t ∧ OutEvent.txFrame f ∈ t.outs :=
  ⟨_, _, rfl, List.mem_singleton.2 rfl⟩
theorem witness_CadenceIsExact : active0.cfg.wf = true ∧ active0.lstate = .active ∧ active0.txCnt = 0 ∧
    ∀ i ∈ [Instr.tick true, .setOne 0 5, .rxByte 0xC8, .tick false, .init [] 0], i ≠ .reset ∧ i ≠ .close := by decide
theorem witness_LinkIsNeverSilent : active0.cfg.wf = true ∧ active0.legal = true ∧ active0.lstate = .active ∧
    (∀ i ∈ [Instr.tick true, .arm, .tick true, .tick false, .tick true], i ≠ .reset ∧ i ≠ .close) ∧
    countTicks [.tick true, .arm, .tick true, .tick false, .tick true] = active0.cfg.txPeriod := by decide
theorem witness_ActivityWindowIsExact : { active0 with rxAge := 0 }.lstate = .active ∧ { active0 with rxAge := 0 }.rxAge = 0 ∧
    (List.replicate 10 true).length ≤ active0.cfg.linkTimeout ∧ active0.cfg.linkTimeout < (List.replicate 11 true).length := by
  decide
theorem witness_InboundIsDroppedOutsideActive : closed0.lstate ≠ .active ∧ (∃ b, Instr.rxByte 0xC8 = .rxByte b) ∧
    lsInstr.isOperation = false := ⟨by decide, ⟨0xC8, rfl⟩, rfl⟩
theorem witness_RxByteAppendsAndDrains : active0.lstate = .active ∧ closed0.lstate ≠ .active ∧
    (∃ t, exec (.rxByte 0) active0 = .next t) ∧
    (List.replicate 63 (0xC8 : Byte)).length < active0.cfg.rxBufMax ∧
    active0.cfg.rxBufMax ≤ (List.replicate 64 (0xC8 : Byte)).length :=
  ⟨by decide, by decide, ⟨_, rfl⟩, by decide, by decide⟩
theorem witness_DrainFollowsTheFramingLoop : ([[], [0x00, 0xC8], [0xC8, 0xC8], [0xC8, 0x02, 0x3A, 0xA1],
    [0xC8, 0x02, 0x3A, 0xA0]] : List (List Byte)).map (frameAt active0.cfg) =
    [.needMore, .badSync, .badLen, .badCrc, .valid 2] := by decide
theorem witness_AcceptConsumesAndDispatches : listening0.lstate = .active ∧ 2 ≤ 12 ∧ (linkstatsData 1 2 3 4 [5, 6, 7, 8, 9, 10]).length = 12 - 2 ∧
    (∃ s0 l crc, { listening0 with rxbuf := encodeFrame Cfg.test 0xC8 0x14 (linkstatsData 1 2 3 4 [5, 6, 7, 8, 9, 10]) }.rxbuf =
      s0 :: l :: 0x14 :: (linkstatsData 1 2 3 4 [5, 6, 7, 8, 9, 10] ++ crc :: [])) ∧
    (∃ k r, classify listening0.cfg 0x14 (linkstatsData 1 2 3 4 [5, 6, 7, 8, 9, 10]) = some (k, r)) ∧
    classify listening0.cfg 0x21 (linkstatsData 1 2 3 4 [5, 6, 7, 8, 9, 10]) = none :=
  ⟨by decide, by decide, rfl, ⟨_, _, _, rfl⟩, ⟨_, _, rfl⟩, rfl⟩
theorem witness_ValidFramesAreExactlyTheCheckedOnes : Cfg.test.wf = true ∧
    frameAt Cfg.test [0xC8, 0x02, 0x3A, 0xA0] = .valid 2 := by decide
theorem witness_EncodedFrameIsValid : Cfg.test.wf = true ∧ Cfg.test.frameLenOk ([] : List Byte).length = true ∧
    Cfg.test.frameLenOk (List.replicate 60 (0 : Byte)).length = true ∧
    Cfg.test.frameLenOk (List.replicate 61 (0 : Byte)).length = false ∧ (List.replicate 61 (0 : Byte)).length ≤ 253 := by decide
theorem witness_FrameFromEmptyBufferIsAccepted : active0.cfg.wf = true ∧ active0.lstate = .active ∧ active0.rxbuf = [] ∧
    active0.cfg.frameLenOk (List.replicate 60 (0 : Byte)).length = true ∧
    (List.replicate 60 (0 : Byte)).length + 4 ≤ active0.cfg.rxBufMax ∧ 63 < (List.replicate 60 (0 : Byte)).length + 4 := by decide
/-- P3a: LS with byte 5 changed from 64 to 65, then BAT. -/
theorem witness_CorruptedFrameCostsOnlyItself : active0.cfg.wf = true ∧ active0.cfg.crcPoly.getLsbD 0 = true ∧
    active0.lstate = .active ∧ active0.rxbuf = [] ∧
    active0.cfg.frameLenOk (linkstatsData 0xB0 0xB5 0x64 0x0A [0x00, 0x04, 0x03, 0xBA, 0x63, 0x08]).length = true ∧
    (linkstatsData 0xB0 0xB5 0x64 0x0A [0x00, 0x04, 0x03, 0xBA, 0x63, 0x08]).length + 4 ≤ active0.cfg.rxBufMax ∧
    active0.cfg.frameLenOk (batteryData 168 123 1500 75 []).length = true ∧
    (batteryData 168 123 1500 75 []).length + 4 ≤ active0.cfg.rxBufMax ∧
    inboundFrame active0.cfg 0x14 (linkstatsData 0xB0 0xB5 0x64 0x0A [0x00, 0x04, 0x03, 0xBA, 0x63, 0x08]) =
      lsFrame.take 5 ++ 0x64 :: lsFrame.drop 6 ∧
    2 ≤ (lsFrame.take 5).length ∧ (0x65 : Byte) ≠ 0x64 ∧
    ∀ b ∈ (lsFrame.take 5 ++ 0x65 :: lsFrame.drop 6).tail, b ≠ active0.cfg.rxSync := by decide +kernel
theorem witness_OverflowIsUnreachableAtTheDefaults : active0.cfg.wf = true ∧ active0.cfg.lenMax + 2 ≤ active0.cfg.rxBufMax ∧
    { active0 with rxbuf := lsFrame.dropLast }.settled = true ∧ (∃ b, Instr.rxByte 0x9A = .rxByte b) ∧
    lsInstr.isOperation = false ∧ ∃ t, exec (.rxByte 0x9A) { active0 with rxbuf := lsFrame.dropLast } = .next t :=
  ⟨by decide, by decide, by decide, ⟨_, rfl⟩, rfl, _, rfl⟩
theorem witness_EveryStepKeepsTheParserSettled :
    { active0 with inbox := [[0x83, 0x9A]], rxbuf := lsFrame.dropLast }.settled = true ∧
    (match step { active0 with inbox := [[0x83, 0x9A]], rxbuf := lsFrame.dropLast } with | .next _ => true | _ => false) = true := by
  decide +kernel
theorem witness_InboundTouchesOnlyTheParser : (∃ b, Instr.rxByte 0x9A = .rxByte b) ∧ lsInstr.isOperation = false ∧
    ∃ t, exec (.rxByte 0x9A) { listening0 with rxbuf := lsFrame.dropLast } = .next t ∧ t.outs ≠ [] :=
  ⟨⟨_, rfl⟩, rfl, _, rfl, by decide +kernel⟩
theorem witness_TelemetryNeedsAnEnabledSlot : ∃ t,
    exec (.rxByte 0x9A) { listening0 with rxbuf := lsFrame.dropLast } = .next t ∧
    OutEvent.tlm .linkstats 0xA0 (.linkStats (-80) (-75) 100 10) ∈ t.outs := ⟨_, rfl, by decide +kernel⟩
theorem witness_frames : listening0.cfg.wf = true ∧ listening0.lstate = .active ∧ listening0.rxbuf = [] ∧
    active0.slots.gps = none ∧
    [lsInstr, batInstr, gpsInstr, attInstr, unkInstr, rcInstr].all (fun i => i.wf listening0.cfg && !i.isOperation &&
      decide ((encode listening0.cfg i).length ≤ listening0.cfg.rxBufMax)) = true := by decide +kernel
/-- The shortest and the longest data each delivery statement admits. -/
theorem witness_frame_lengths : [Instr.frameLinkstats 1 2 3 4 (List.replicate 6 0), .frameLinkstats 1 2 3 4 (List.replicate 56 0),
    .frameBattery 1 2 3 4 [], .frameBattery 1 2 3 4 (List.replicate 52 0), .frameGps 1 2 3 4 5 6 [],
    .frameGps 1 2 3 4 5 6 (List.replicate 45 0), .frameAttitude 1 2 3 [], .frameAttitude 1 2 3 (List.replicate 54 0),
    .frameUnknown 0x3A [], .frameUnknown 0x14 (List.replicate 9 0), .frameUnknown 0x7F (List.replicate 60 0)].all
    (fun i => i.wf Cfg.test && decide ((encode Cfg.test i).length ≤ Cfg.test.rxBufMax)) = true := by decide +kernel
theorem witness_CrcAlgebra : Cfg.test.crcInit = 0 ∧ ([1, 2] : List Byte).length = ([3, 4] : List Byte).length := by decide
theorem witness_CrcDetectsOneChangedByte : Cfg.test.crcPoly.getLsbD 0 = true ∧ (0x64 : Byte) ≠ 0x65 := by decide
theorem witness_ChannelPacking : Cfg.test.wf = true ∧ (List.replicate 16 2047).length = 16 ∧
    (∀ c ∈ List.replicate 16 2047, c < 2 ^ Cfg.test.chBits) ∧ (List.replicate 22 (0xFF : Byte)).length = Cfg.test.packedLen ∧
    15 < 16 ∧ 10 < Cfg.test.chBits ∧ Cfg.test.chBits = 11 := by decide
theorem witness_OperationsDecodeFromTheirWords : [Instr.init (List.replicate 255 0) 0, .setAll (List.replicate 255 0),
    .illegal [0x7F], .close, .regGps true 7].all (fun i => i.isOperation && i.wf Cfg.test) = true := by decide +kernel
theorem witness_DecodedWordsAreTheirEncodings : decodeWord [0x0A, 0x00, 0x00, 0x00, 0x00, 0x07] = .ok (.regGps false 7) := rfl
theorem witness_FramesDecodeFromTheirBytes : Cfg.test.wf = true ∧ rcInstr.isOperation = false ∧ rcInstr.wf Cfg.test = true := by
  decide
theorem witness_HostWordsAreNeverRefused : isHostWord [0x7F] = true ∧ legalHostWord [0x7F] = false ∧
    isHostWord [0x02] = true ∧ legalHostWord [0x02] = true := by decide
theorem witness_EventWordsOutsideTheListAreRefused : (0x80 : Byte).msb = true ∧ (0xFF : Byte).msb = true := by decide
theorem witness_StepRunsTheDecodedOperation : { active0 with inbox := [[0x05], [0x06]] }.cfg.wf = true ∧
    { active0 with inbox := [[0x05], [0x06]] }.legal = true ∧ decodeWord [0x05] = .ok .arm ∧
    active0.inbox = [] ∧ active0.legal = true := ⟨by decide, by decide, rfl, rfl, by decide⟩
theorem witness_StepRefusesWhatHasNoMeaning : Cfg.wf { Cfg.test with nch := 8 } = false ∧
    { active0 with txCnt := 4 }.legal = false ∧ { active0 with txCnt := 4 }.cfg.wf = true ∧
    { active0 with inbox := [[0x84]] }.legal = true ∧ decodeWord [0x84] = .error (.eventOpcode 0x84) :=
  ⟨by decide, by decide, by decide, by decide, rfl⟩
theorem witness_StepIsTotalOnOperations : active0.cfg.wf = true ∧ { active0 with inbox := [[0x05]] }.legal = true ∧
    ∀ w ∈ { active0 with inbox := [[0x05]] }.inbox.head?, ∃ i, decodeWord w = .ok i :=
  ⟨by decide, by decide, fun w hw => ⟨.arm, by cases hw; rfl⟩⟩
theorem witness_EveryStepKeepsTheStateLegal : { active0 with inbox := [[0x82, 0x01]] }.cfg.wf = true ∧
    { active0 with inbox := [[0x82, 0x01]] }.legal = true ∧
    (match step { active0 with inbox := [[0x82, 0x01]] } with | .next _ => true | _ => false) = true := by decide +kernel
theorem witness_ExecKeepsConfigAndInbox : ∃ t, exec .arm { active0 with inbox := [[0x06]] } = .next t := ⟨_, rfl⟩
theorem witness_NothingReachesTheHandleOutsideActive : closed0.lstate ≠ .active ∧ (∃ t, exec .arm closed0 = .next t) ∧
    Instr.arm ≠ .reset ∧ (∀ port baud, Instr.arm ≠ .init port baud) ∧ ∀ r, Instr.arm ≠ .openResult r :=
  ⟨by decide, ⟨_, rfl⟩, by decide, fun _ _ h => Instr.noConfusion h, fun _ h => Instr.noConfusion h⟩

end Sys2Proof.Tests
end

section
/-! PROOFS. The shape of the outbound channel frame (R67, R95), and its bytes for the post-RESET store. -/

namespace Sys2Proof.Proofs.OutboundFrame

open Sys2Proof.Machine

/-- The channel frame of any configuration, with the length byte in terms of the packed length. -/
theorem encodeRcFrame_eq (cfg : Cfg) (ch : List Nat) :
    encodeRcFrame cfg ch = cfg.txSync :: BitVec.ofNat 8 (cfg.packedLen + 2) :: cfg.typeRc ::
      (packChannels cfg ch ++ [crc8 cfg (cfg.typeRc :: packChannels cfg ch)]) := by
  rw [encodeRcFrame, encodeFrame, packChannels_length, List.cons_append]

@[simp] theorem encodeRcFrame_length (cfg : Cfg) (ch : List Nat) :
    (encodeRcFrame cfg ch).length = cfg.packedLen + 4 := by
  rw [encodeRcFrame, encodeFrame_length, packChannels_length]

/-- 16 channels of 11 bits fill 22 bytes (R42). -/
theorem packedLen_of_chBits {cfg : Cfg} (hwf : cfg.wf = true) (hbits : cfg.chBits = 11) : cfg.packedLen = 22 := by
  obtain ⟨hnch, -⟩ := Cfg_wf_facts hwf
  rw [Cfg.packedLen, hnch, hbits]

/-- The post-RESET store holds CH_CENTER in every register. -/
theorem reset_snapshot : State.reset.snapshot = List.replicate 16 992 := by decide

/-- The packed bytes of V-PACK-1: 16 x 992 repeats with period 11 bytes. -/
theorem packChannels_centre : packChannels Cfg.test (List.replicate 16 992) =
    [0xE0, 0x03, 0x1F, 0xF8, 0xC0, 0x07, 0x3E, 0xF0, 0x81, 0x0F, 0x7C,
      0xE0, 0x03, 0x1F, 0xF8, 0xC0, 0x07, 0x3E, 0xF0, 0x81, 0x0F, 0x7C] := by decide

/-- The checksum of V-PACK-1, over the type byte and the packed bytes. -/
theorem crc8_centre : crc8 Cfg.test
    [0x16, 0xE0, 0x03, 0x1F, 0xF8, 0xC0, 0x07, 0x3E, 0xF0, 0x81, 0x0F, 0x7C,
      0xE0, 0x03, 0x1F, 0xF8, 0xC0, 0x07, 0x3E, 0xF0, 0x81, 0x0F, 0x7C] = 0xAD := by decide +kernel

/-- Settles O47: the equation of the frame at packed length 22, and the packed bytes and checksum of V-PACK-1 put into it. -/
theorem outboundFrameShape : Obligations.OutboundFrameShape := by
  refine ⟨fun cfg ch hwf hbits => ?shape, ?centre⟩
  case shape =>
    have hlen : cfg.packedLen = 22 := packedLen_of_chBits hwf hbits
    refine ⟨?bytes, ?packed, ?frame⟩
    case bytes => rw [encodeRcFrame_eq, hlen]; rfl
    case packed => rw [packChannels_length, hlen]
    case frame => rw [encodeRcFrame_length, hlen]
  case centre =>
    have htype : Cfg.test.typeRc = 0x16 := rfl
    rw [reset_snapshot, encodeRcFrame_eq, packChannels_centre, htype, crc8_centre]
    rfl

end Sys2Proof.Proofs.OutboundFrame
end

section
/-! PROOFS. What the commands of the link and of the host answer: one equation per arm of their meanings (R121 to R134, R150, R170), and the facts of a well-formed configuration and a legal state that those need. -/

namespace Sys2Proof.Proofs.Commands

open Sys2Proof.Machine

/-! ## Facts of the configuration and the state -/

/-- The four response codes R5 takes from the source. -/
theorem Cfg_wf_codes {cfg : Cfg} (h : cfg.wf = true) :
    cfg.rcOk = 0 ∧ cfg.rcAlreadyInitialized = 0xFF ∧ cfg.rcLinkStartFailure = 0xFE ∧ cfg.rcLinkTimeout = 0xFD := by
  simp only [Cfg.wf, Cfg.meetsLayout, Bool.and_eq_true, decide_eq_true_eq] at h
  obtain ⟨-, -, -, -, hok, halready, hstart, htimeout, -⟩ := h
  exact ⟨hok, halready, hstart, htimeout⟩

/-- A pending INIT of a legal state has waited less than CONNECT_TIMEOUT ticks (R27 (4)). -/
theorem connCnt_lt_of_connecting {s : State} (hlegal : s.legal = true) (h : s.lstate = .connecting) :
    s.connCnt < s.cfg.connectTimeout := by
  simp only [State.legal, State.linkConsistent, h, Bool.and_eq_true, decide_eq_true_eq] at hlegal
  obtain ⟨⟨-, -, hlt⟩, -⟩ := hlegal
  exact hlt

/-- Outside ACTIVE the link is not active, whatever RX_AGE says (R22). -/
theorem isActive_of_not_active {s : State} (h : s.lstate ≠ .active) : s.isActive = false := by
  simp [State.isActive, h]

/-- An instruction answers one next state. -/
theorem next_unique {i : Instr} {s t u : State} (ht : exec i s = .next t) (hu : exec i s = .next u) : t = u :=
  Host.Outcome.next.inj (ht.symm.trans hu)

/-! ## The commands behind the state test (R203) -/

theorem whenActive_lstate {k : State → State} (hk : ∀ s, (k s).lstate = s.lstate) (s : State) :
    (s.whenActive k).lstate = s.lstate := by
  rcases s.whenActive_cases k with ⟨-, heq⟩ | ⟨-, heq⟩ <;> rw [heq]
  · exact hk s
  · exact s.raise_lstate _

/-- Every store and registry command is a command behind the state test, and leaves LSTATE as it is. -/
theorem exec_needsActive {i : Instr} (hi : needsActive i = true) :
    ∃ k : State → State, (∀ s, (k s).lstate = s.lstate) ∧ ∀ s, exec i s = .next (s.begin.whenActive k) := by
  cases i with
  | setAll _ | setOne _ _ =>
    refine ⟨_, ?_, fun _ => rfl⟩
    intro s
    split_ifs <;> rfl
  | arm | disarm | regLinkstats _ _ | regBattery _ _ | regGps _ _ | regAttitude _ _ =>
    refine ⟨_, ?_, fun _ => rfl⟩
    exact fun _ => rfl
  | _ => cases hi

/-- Outside ACTIVE a store or registry command answers StateError, whatever its operands. -/
theorem exec_needsActive_other {i : Instr} {s : State} (hi : needsActive i = true) (h : s.lstate ≠ .active) :
    exec i s = .next { s with outs := [.resp s.cfg.rcStateError] } := by
  obtain ⟨k, -, hexec⟩ := exec_needsActive hi
  rw [hexec, State.whenActive_other (s := s.begin) h]
  rfl

/-! ## INIT, OPEN_RESULT and CLOSE -/

theorem exec_init_idle (port : List Byte) (baud : Word32) {s : State} (h : s.lstate = .uninit ∨ s.lstate = .closed) :
    exec (.init port baud) s = .next
      ({ s.begin.connReset with initResult := .none, lstate := .connecting }.emit (.openReq port baud)) := by
  have hidle : ¬(s.lstate = .connecting ∨ s.lstate = .active) := by rcases h with h | h <;> simp [h]
  exact congrArg Host.Outcome.next (if_neg hidle)

theorem exec_init_busy (port : List Byte) (baud : Word32) {s : State} (h : s.lstate = .connecting ∨ s.lstate = .active) :
    exec (.init port baud) s = .next { s with outs := [.resp s.cfg.rcAlreadyInitialized] } :=
  congrArg Host.Outcome.next (if_pos h)

theorem exec_openResult_other (r : OpenResult) {s : State} (h : s.lstate ≠ .connecting) :
    exec (.openResult r) s = .next { s with outs := [] } :=
  congrArg Host.Outcome.next (if_pos h)

theorem exec_openResult_up {s : State} (h : s.lstate = .connecting) :
    exec (.openResult .up) s = .next { s with
      lstate := .active, initResult := .ok, txCnt := 0, rxAge := s.cfg.linkTimeout + 1, outs := [.initDone s.cfg.rcOk] } :=
  congrArg Host.Outcome.next (if_neg (not_not.2 h))

/-- Both failures end the same way. -/
theorem exec_openResult_failed {r : OpenResult} {s : State} (h : s.lstate = .connecting) (hr : r ≠ .up) :
    exec (.openResult r) s = .next { s with
      lstate := .closed, initResult := .startFail, outs := [.initDone s.cfg.rcLinkStartFailure] } := by
  cases r with
  | up => exact absurd rfl hr
  | deviceUnavailable | configError => exact congrArg Host.Outcome.next (if_neg (not_not.2 h))

theorem exec_close_active {s : State} (h : s.lstate = .active) :
    exec .close s = .next { s with lstate := .closed, outs := [.xportClose, .resp s.cfg.rcOk] } :=
  congrArg (fun t : State => Host.Outcome.next t.respondOk) (if_pos h)

theorem exec_close_other {s : State} (h : s.lstate ≠ .active) :
    exec .close s = .next { s with outs := [.resp s.cfg.rcOk] } :=
  congrArg (fun t : State => Host.Outcome.next t.respondOk) (if_neg h)

/-! ## TICK and RX_BYTE -/

theorem exec_tick_idle (wrOk : Bool) {s : State} (h : s.lstate = .uninit ∨ s.lstate = .closed) :
    exec (.tick wrOk) s = .next { s with outs := [] } := by
  rcases h with h | h <;> simp only [exec, execTick, h] <;> rfl

theorem exec_tick_connecting (wrOk : Bool) {s : State} (h : s.lstate = .connecting) :
    exec (.tick wrOk) s = .next s.begin.tickConnecting := by
  simp only [exec, execTick, h]

theorem exec_tick_timeout (wrOk : Bool) {s : State} (h : s.lstate = .connecting)
    (hlast : s.cfg.connectTimeout ≤ s.connCnt + 1) :
    exec (.tick wrOk) s = .next { s with
      connCnt := s.connCnt + 1, lstate := .closed, initResult := .timeout,
      outs := [.xportClose, .initDone s.cfg.rcLinkTimeout] } := by
  rw [exec_tick_connecting wrOk h]
  exact congrArg Host.Outcome.next (if_pos hlast)

theorem exec_tick_waiting (wrOk : Bool) {s : State} (h : s.lstate = .connecting)
    (hmore : s.connCnt + 1 < s.cfg.connectTimeout) :
    exec (.tick wrOk) s = .next { s with connCnt := s.connCnt + 1, outs := [] } := by
  rw [exec_tick_connecting wrOk h]
  exact congrArg Host.Outcome.next (if_neg (Nat.not_le.2 hmore))

theorem exec_tick_active (wrOk : Bool) {s : State} (h : s.lstate = .active) :
    exec (.tick wrOk) s = .next (s.begin.tickAge.tickTransmit wrOk) := by
  simp only [exec, execTick, h]

@[simp] theorem tickTransmit_lstate (s : State) (wrOk : Bool) : (s.tickTransmit wrOk).lstate = s.lstate := by
  unfold State.tickTransmit; split <;> rfl

theorem exec_rxByte_other (b : Byte) {s : State} (h : s.lstate ≠ .active) :
    exec (.rxByte b) s = .next { s with outs := [] } :=
  congrArg Host.Outcome.next (State.receive_other (s := s.begin) h b)

/-! ## The commands of the store and the registry in ACTIVE -/

/-- Under a well-formed configuration the legal channel values are 0 to 1984 (R12). -/
theorem valueOk_iff_of_wf {cfg : Cfg} (hwf : cfg.wf = true) (v : Word32) :
    cfg.valueOk v = true ↔ 0 ≤ v.toInt ∧ v.toInt ≤ 1984 := by
  obtain ⟨-, hmin, hmax, -⟩ := Cfg_wf_facts hwf
  rw [valueOk_iff, hmin, hmax]
  rfl

/-- Under a well-formed configuration the legal channel indices are 0 to 15. -/
theorem indexOk_iff_of_wf {cfg : Cfg} (hwf : cfg.wf = true) (v : Word32) :
    cfg.indexOk v = true ↔ 0 ≤ v.toInt ∧ v.toInt ≤ 15 := by
  obtain ⟨hnch, -⟩ := Cfg_wf_facts hwf
  rw [indexOk_iff, hnch]
  rfl

/-- A legal channel value is kept whole by the 11 bits of a register. -/
theorem toNat_mod_of_channel_value {v : Word32} (h : 0 ≤ v.toInt ∧ v.toInt ≤ 1984) :
    ((v.toNat % 2 ^ 11 : Nat) : Int) = v.toInt := by
  have := toNat_of_toInt_nonneg h.1
  omega

theorem exec_setAll_active (vs : List Word32) {s : State} (hact : s.lstate = .active) :
    exec (.setAll vs) s = .next
      (if vs.length ≠ s.cfg.nch then s.begin.raise .configError
      else if vs.all s.cfg.valueOk = false then s.begin.raise .configError
      else (s.begin.writeAll vs).respondOk) :=
  congrArg Host.Outcome.next (State.whenActive_active (s := s.begin) hact)

theorem exec_setAll_rejected {vs : List Word32} {s : State} (hact : s.lstate = .active)
    (hbad : vs.length ≠ s.cfg.nch ∨ vs.all s.cfg.valueOk = false) :
    exec (.setAll vs) s = .next { s with outs := [.resp s.cfg.rcConfigError] } := by
  rw [exec_setAll_active vs hact]
  by_cases hlen : vs.length ≠ s.cfg.nch
  · rw [if_pos hlen]; rfl
  · rw [if_neg hlen, if_pos (hbad.resolve_left hlen)]; rfl

theorem exec_setAll_stored {vs : List Word32} {s : State} (hact : s.lstate = .active) (hlen : vs.length = s.cfg.nch)
    (hval : vs.all s.cfg.valueOk = true) :
    exec (.setAll vs) s = .next { s with ch := (s.writeAll vs).ch, outs := [.resp s.cfg.rcOk] } := by
  rw [exec_setAll_active vs hact, if_neg (not_not.2 hlen), if_neg (by simp [hval])]
  rfl

theorem exec_setOne_active (index value : Word32) {s : State} (hact : s.lstate = .active) :
    exec (.setOne index value) s = .next
      (if s.cfg.indexOk index = false then s.begin.raise .configError
      else if s.cfg.valueOk value = false then s.begin.raise .configError
      else (s.begin.writeCh index.toNat value.toNat).respondOk) :=
  congrArg Host.Outcome.next (State.whenActive_active (s := s.begin) hact)

theorem exec_setOne_rejected {index value : Word32} {s : State} (hact : s.lstate = .active)
    (hbad : s.cfg.indexOk index = false ∨ s.cfg.valueOk value = false) :
    exec (.setOne index value) s = .next { s with outs := [.resp s.cfg.rcConfigError] } := by
  rw [exec_setOne_active index value hact]
  by_cases hindex : s.cfg.indexOk index = false
  · rw [if_pos hindex]; rfl
  · rw [if_neg hindex, if_pos (hbad.resolve_left hindex)]; rfl

theorem exec_setOne_stored {index value : Word32} {s : State} (hact : s.lstate = .active)
    (hindex : s.cfg.indexOk index = true) (hvalue : s.cfg.valueOk value = true) :
    exec (.setOne index value) s = .next
      { s with ch := (s.writeCh index.toNat value.toNat).ch, outs := [.resp s.cfg.rcOk] } := by
  rw [exec_setOne_active index value hact, if_neg (by simp [hindex]), if_neg (by simp [hvalue])]
  rfl

theorem regSlot_active {s : State} (hact : s.lstate = .active) (k : Kind) (h : Option Token) :
    s.begin.regSlot k h = { s with slots := s.slots.set k h, outs := [.resp s.cfg.rcOk] } :=
  State.whenActive_active (s := s.begin) hact

end Sys2Proof.Proofs.Commands
end

section
/-! PROOFS. The link life cycle: OPEN_RESULT (R122), CLOSE (R123) and the transition table of LSTATE (R135). -/

namespace Sys2Proof.Proofs.LinkTable

open Sys2Proof.Machine Sys2Proof.Proofs.Commands

/-! ## The transition table -/

/-- The row of a listed pair, read off the state the instruction is known to answer. -/
theorem listed_of_exec_eq {i : Instr} {s t u : State} {l : LState} {outs : List OutEvent} (hexec : exec i s = .next t)
    (hu : exec i s = .next u) (hrow : some (u.lstate, u.outs) = some (l, outs)) : t.lstate = l ∧ t.outs = outs := by
  rw [next_unique hexec hu]
  exact Prod.mk.inj (Option.some.inj hrow)

/-- A listed pair moves LSTATE as its row says, with the row's outputs: one case per row of the table. -/
theorem exec_of_listed {i : Instr} {s t : State} {l : LState} {outs : List OutEvent} (hexec : exec i s = .next t)
    (hrow : linkRow i s = some (l, outs)) : t.lstate = l ∧ t.outs = outs := by
  unfold linkRow at hrow
  split at hrow
  case h_1 => exact listed_of_exec_eq hexec rfl hrow
  case h_2 hl => exact listed_of_exec_eq hexec (exec_init_idle _ _ (.inl hl)) hrow
  case h_3 hl => exact listed_of_exec_eq hexec (exec_init_idle _ _ (.inr hl)) hrow
  case h_4 hl => exact listed_of_exec_eq hexec (exec_openResult_up hl) hrow
  case h_5 hl => exact listed_of_exec_eq hexec (exec_openResult_failed hl (by decide)) hrow
  case h_6 hl => exact listed_of_exec_eq hexec (exec_openResult_failed hl (by decide)) hrow
  case h_7 hl =>
    split at hrow
    case isTrue hlast => exact listed_of_exec_eq hexec (exec_tick_timeout _ hl (Nat.le_of_eq hlast.symm)) hrow
    case isFalse => cases hrow
  case h_8 hl => exact listed_of_exec_eq hexec (exec_close_active hl) hrow
  case h_9 => cases hrow

/-- No store or registry command moves LSTATE. -/
theorem lstate_of_needsActive {i : Instr} {s t : State} (hi : needsActive i = true) (hexec : exec i s = .next t) :
    t.lstate = s.lstate := by
  obtain ⟨k, hk, hcommand⟩ := exec_needsActive hi
  rw [next_unique hexec (hcommand s)]
  exact whenActive_lstate hk s.begin

/-- No inbound byte or frame moves LSTATE. -/
theorem lstate_of_inbound {i : Instr} {s t : State} (hi : (∃ b, i = .rxByte b) ∨ i.isOperation = false)
    (hexec : exec i s = .next t) : t.lstate = s.lstate := by
  obtain ⟨bs, hfed⟩ := exec_inbound hi s
  rw [next_unique hexec hfed, (s.begin.receiveAll_frame bs).1]
  rfl

theorem lstate_of_unlisted_init {port : List Byte} {baud : Word32} {s t : State}
    (hexec : exec (.init port baud) s = .next t) (hrow : linkRow (.init port baud) s = none) : t.lstate = s.lstate := by
  cases hl : s.lstate with
  | uninit | closed => simp [linkRow, hl] at hrow
  | connecting => rw [next_unique hexec (exec_init_busy _ _ (.inl hl))]; exact hl
  | active => rw [next_unique hexec (exec_init_busy _ _ (.inr hl))]; exact hl

theorem lstate_of_unlisted_openResult {r : OpenResult} {s t : State} (hexec : exec (.openResult r) s = .next t)
    (hrow : linkRow (.openResult r) s = none) : t.lstate = s.lstate := by
  by_cases hl : s.lstate = .connecting
  · cases r <;> simp [linkRow, hl] at hrow
  · rw [next_unique hexec (exec_openResult_other r hl)]

theorem lstate_of_unlisted_close {s t : State} (hexec : exec .close s = .next t) (hrow : linkRow .close s = none) :
    t.lstate = s.lstate := by
  by_cases hl : s.lstate = .active
  · simp [linkRow, hl] at hrow
  · rw [next_unique hexec (exec_close_other hl)]

/-- An unlisted TICK in CONNECTING is one before the last: the count of a legal state is below CONNECT_TIMEOUT, where the
table tests for equality and the block for the bound. -/
theorem lstate_of_unlisted_tick {wrOk : Bool} {s t : State} (hlegal : s.legal = true)
    (hexec : exec (.tick wrOk) s = .next t) (hrow : linkRow (.tick wrOk) s = none) : t.lstate = s.lstate := by
  cases hl : s.lstate with
  | uninit => rw [next_unique hexec (exec_tick_idle _ (.inl hl))]; exact hl
  | closed => rw [next_unique hexec (exec_tick_idle _ (.inr hl))]; exact hl
  | active => rw [next_unique hexec (exec_tick_active _ hl), tickTransmit_lstate]; exact hl
  | connecting =>
    have hlt := connCnt_lt_of_connecting hlegal hl
    have hne : s.connCnt + 1 ≠ s.cfg.connectTimeout := by simpa [linkRow, hl] using hrow
    rw [next_unique hexec (exec_tick_waiting _ hl (Nat.lt_of_le_of_ne hlt hne))]
    exact hl

/-- An unlisted pair leaves LSTATE: one case per instruction. -/
theorem lstate_of_unlisted {i : Instr} {s t : State} (hlegal : s.legal = true) (hexec : exec i s = .next t)
    (hrow : linkRow i s = none) : t.lstate = s.lstate := by
  cases i with
  | reset => cases hrow
  | init port baud => exact lstate_of_unlisted_init hexec hrow
  | openResult r => exact lstate_of_unlisted_openResult hexec hrow
  | close => exact lstate_of_unlisted_close hexec hrow
  | tick wrOk => exact lstate_of_unlisted_tick hlegal hexec hrow
  | isActive | illegal _ => cases hexec; rfl
  | setAll _ | setOne _ _ | arm | disarm | regLinkstats _ _ | regBattery _ _ | regGps _ _ | regAttitude _ _ =>
    exact lstate_of_needsActive rfl hexec
  | rxByte b => exact lstate_of_inbound (.inl ⟨b, rfl⟩) hexec
  | frameRcChannels _ | frameGps _ _ _ _ _ _ _ | frameBattery _ _ _ _ _ | frameLinkstats _ _ _ _ _
  | frameAttitude _ _ _ _ | frameUnknown _ _ => exact lstate_of_inbound (.inr rfl) hexec

/-- Settles O6: a listed pair by the rows of the table, an unlisted one by the instructions. -/
theorem linkMovesOnlyByTheTable : Obligations.LinkMovesOnlyByTheTable := by
  intro i s t _ hlegal hexec
  split
  case h_1 l outs hrow => exact exec_of_listed hexec hrow
  case h_2 hrow => exact lstate_of_unlisted hlegal hexec hrow

/-! ## OPEN_RESULT and CLOSE -/

/-- Settles O4: the arms of OPEN_RESULT with the codes of a well-formed configuration; after UP the saturated RX_AGE, after
a failure CLOSED keeps IS_ACTIVE false. -/
theorem openResultResolvesInit : Obligations.OpenResultResolvesInit := by
  intro r s hwf
  obtain ⟨hok, -, hfail, -⟩ := Cfg_wf_codes hwf
  refine ⟨exec_openResult_other r, ?up, ?failed, ?inactive⟩
  case up => rintro hl rfl; rw [exec_openResult_up hl, hok]
  case failed => intro hl hr; rw [exec_openResult_failed hl hr, hfail]
  case inactive =>
    intro hl t hexec
    by_cases hr : r = .up
    · subst hr
      rw [next_unique hexec (exec_openResult_up hl)]
      simp [State.isActive]
    · rw [next_unique hexec (exec_openResult_failed hl hr)]
      exact isActive_of_not_active (by simp)

/-- After CLOSE the link is not ACTIVE. -/
theorem lstate_ne_active_of_close {s t : State} (hexec : exec .close s = .next t) : t.lstate ≠ .active := by
  by_cases hl : s.lstate = .active
  · rw [next_unique hexec (exec_close_active hl)]; simp
  · rw [next_unique hexec (exec_close_other hl)]; exact hl

/-- CLOSE leaves the channel store, and with it ARMED. -/
theorem armed_of_close {s t : State} (hexec : exec .close s = .next t) : t.armed = s.armed := by
  by_cases hl : s.lstate = .active
  · rw [next_unique hexec (exec_close_active hl)]; rfl
  · rw [next_unique hexec (exec_close_other hl)]; rfl

/-- Settles O5: the two arms of CLOSE, and the arms of TICK and RX_BYTE outside ACTIVE for the state it leaves. -/
theorem closeEndsAnActiveLink : Obligations.CloseEndsAnActiveLink := by
  intro s hwf
  obtain ⟨hok, -⟩ := Cfg_wf_codes hwf
  refine ⟨fun hl => ?active, fun hl => ?other, fun t hexec => ?after⟩
  case active => rw [exec_close_active hl, hok]
  case other => rw [exec_close_other hl, hok]
  case after =>
    have hdead : t.lstate ≠ .active := lstate_ne_active_of_close hexec
    refine ⟨isActive_of_not_active hdead, armed_of_close hexec, fun hl => ⟨fun wrOk => ?_, fun b => ?_⟩⟩
    · have hclosed : t.lstate = .closed := by rw [next_unique hexec (exec_close_active hl)]
      exact exec_tick_idle wrOk (.inr hclosed)
    · exact exec_rxByte_other b hdead

end Sys2Proof.Proofs.LinkTable
end

section
/-! PROOFS. The channel store commands: SET_ALL (R124), SET_ONE (R125), ARM (R126) and DISARM (R127). -/

namespace Sys2Proof.Proofs.ChannelStore

open Sys2Proof.Machine Sys2Proof.Proofs.Commands

/-! ## SET_ALL -/

/-- One value out of range is enough for the test of all values to fail. -/
theorem all_valueOk_eq_false {cfg : Cfg} (hwf : cfg.wf = true) {vs : List Word32}
    (hbad : ∃ v ∈ vs, v.toInt < 0 ∨ 1984 < v.toInt) : vs.all cfg.valueOk = false := by
  obtain ⟨v, hmem, hv⟩ := hbad
  refine List.all_eq_false.2 ⟨v, hmem, fun hok => ?_⟩
  have := (valueOk_iff_of_wf hwf v).1 hok
  omega

theorem all_valueOk_eq_true {cfg : Cfg} (hwf : cfg.wf = true) {vs : List Word32}
    (hgood : ∀ v ∈ vs, 0 ≤ v.toInt ∧ v.toInt ≤ 1984) : vs.all cfg.valueOk = true :=
  List.all_eq_true.2 fun v hmem => (valueOk_iff_of_wf hwf v).2 (hgood v hmem)

/-- Each register reads back the operand written to it. -/
theorem readCh_writeAll_of_good (s : State) {vs : List Word32} (hlen : vs.length = 16)
    (hgood : ∀ v ∈ vs, 0 ≤ v.toInt ∧ v.toInt ≤ 1984) {i : Nat} (hi : i < 16) :
    ((s.writeAll vs).readCh i : Int) = (vs.getD i 0).toInt := by
  have hmem : vs.getD i 0 ∈ vs := by
    rw [List.getD_eq_getElem vs 0 (hlen ▸ hi)]
    exact List.getElem_mem _
  rw [State.readCh_writeAll s vs hi]
  exact toNat_mod_of_channel_value (hgood _ hmem)

/-- Settles O8: the arms of SET_ALL, and what the registers read back after the write of all 16. -/
theorem setAllIsAllOrNothing : Obligations.SetAllIsAllOrNothing := by
  intro vs s hwf
  obtain ⟨hnch, -, -, -, harm, -⟩ := Cfg_wf_facts hwf
  obtain ⟨hok, -⟩ := Cfg_wf_codes hwf
  refine ⟨exec_needsActive_other rfl, fun hact hbad => ?rejected, fun hact hlen hgood => ?stored⟩
  case rejected =>
    refine exec_setAll_rejected hact (hbad.imp (fun hlen => ?_) (all_valueOk_eq_false hwf))
    rwa [hnch]
  case stored =>
    have hread : ∀ i < 16, ((s.writeAll vs).readCh i : Int) = (vs.getD i 0).toInt :=
      fun i hi => readCh_writeAll_of_good s hlen hgood hi
    refine ⟨_, exec_setAll_stored hact (hlen.trans hnch.symm) (all_valueOk_eq_true hwf hgood), by rw [hok], hread, ?_⟩
    rw [← hread _ harm]
    exact decide_eq_decide.2 Int.ofNat_lt.symm

/-! ## SET_ONE -/

/-- A channel index within 0 to 15 names a register. -/
theorem toNat_lt_of_channel_index {v : Word32} (h : 0 ≤ v.toInt ∧ v.toInt ≤ 15) : v.toNat < 16 := by
  have := toNat_of_toInt_nonneg h.1
  omega

/-- The register written reads back the value, the other 15 what they held. -/
theorem readCh_writeCh_of_good (s : State) {index value : Word32} (hindex : 0 ≤ index.toInt ∧ index.toInt ≤ 15)
    (hvalue : 0 ≤ value.toInt ∧ value.toInt ≤ 1984) (i : Nat) :
    ((s.writeCh index.toNat value.toNat).readCh i : Int) =
      if (i : Int) = index.toInt then value.toInt else s.readCh i := by
  have hsame : (i : Int) = index.toInt ↔ i = index.toNat := by
    rw [← toNat_of_toInt_nonneg hindex.1, Int.natCast_inj]
  split
  case isTrue h =>
    obtain rfl := hsame.1 h
    rw [State.readCh_writeCh_same s _ (toNat_lt_of_channel_index hindex)]
    exact toNat_mod_of_channel_value hvalue
  case isFalse h => rw [State.readCh_writeCh_other s _ (mt hsame.2 h)]

/-- Settles O9: the arms of SET_ONE, and what the registers read back after the write of one. -/
theorem setOneStoresOneChannel : Obligations.SetOneStoresOneChannel := by
  intro index value s hwf
  obtain ⟨hok, -⟩ := Cfg_wf_codes hwf
  refine ⟨exec_needsActive_other rfl, fun hact hbad => ?rejected, fun hact hindex hvalue => ?stored⟩
  case rejected =>
    refine exec_setOne_rejected hact (hbad.imp (fun h => ?_) (fun h => ?_)) <;> rw [← Bool.not_eq_true]
    · rw [indexOk_iff_of_wf hwf]; omega
    · rw [valueOk_iff_of_wf hwf]; omega
  case stored =>
    have hstored := exec_setOne_stored hact ((indexOk_iff_of_wf hwf index).2 hindex) ((valueOk_iff_of_wf hwf value).2 hvalue)
    exact ⟨_, hstored, by rw [hok], fun i _ => readCh_writeCh_of_good s hindex hvalue i⟩

/-! ## ARM and DISARM -/

/-- A small number is the value of the operand word that writes it. -/
theorem toInt_ofNat_of_lt {n : Nat} (h : n < 2 ^ 31) : (BitVec.ofNat 32 n).toInt = n := by
  have hn : (BitVec.ofNat 32 n).toNat = n := by rw [BitVec.toNat_ofNat]; omega
  rw [BitVec.toInt_eq_toNat_of_lt (by omega), hn]

/-- SET_ONE of a legal channel and value, given as numbers, is the write of that channel behind the state test. -/
theorem exec_setOne_ofNat {s : State} (hwf : s.cfg.wf = true) {c v : Nat} (hc : c < 16) (hv : v ≤ 1984) :
    exec (.setOne (BitVec.ofNat 32 c) (BitVec.ofNat 32 v)) s =
      .next (s.begin.whenActive fun s => (s.writeCh c v).respondOk) := by
  by_cases hact : s.lstate = .active
  · have hindex : s.cfg.indexOk (BitVec.ofNat 32 c) = true := by
      rw [indexOk_iff_of_wf hwf, toInt_ofNat_of_lt (by omega)]; omega
    have hvalue : s.cfg.valueOk (BitVec.ofNat 32 v) = true := by
      rw [valueOk_iff_of_wf hwf, toInt_ofNat_of_lt (by omega)]; omega
    have hcn : (BitVec.ofNat 32 c).toNat = c := by rw [BitVec.toNat_ofNat]; omega
    have hvn : (BitVec.ofNat 32 v).toNat = v := by rw [BitVec.toNat_ofNat]; omega
    rw [exec_setOne_stored hact hindex hvalue, hcn, hvn, State.whenActive_active (s := s.begin) hact]
    rfl
  · rw [exec_needsActive_other rfl hact, State.whenActive_other (s := s.begin) hact]
    rfl

/-- ARM is SET_ONE of the arm channel to ARM_HIGH. -/
theorem exec_arm_eq_setOne {s : State} (hwf : s.cfg.wf = true) :
    exec .arm s = exec (.setOne (BitVec.ofNat 32 s.cfg.armCh) (BitVec.ofNat 32 s.cfg.armHigh)) s := by
  obtain ⟨-, -, -, -, hch, -, -, hhigh, -⟩ := Cfg_wf_facts hwf
  rw [exec_setOne_ofNat hwf hch hhigh]
  rfl

/-- DISARM is SET_ONE of the arm channel to ARM_LOW. -/
theorem exec_disarm_eq_setOne {s : State} (hwf : s.cfg.wf = true) :
    exec .disarm s = exec (.setOne (BitVec.ofNat 32 s.cfg.armCh) (BitVec.ofNat 32 s.cfg.armLow)) s := by
  obtain ⟨-, -, -, -, hch, hlow, hthreshold, hhigh, -⟩ := Cfg_wf_facts hwf
  rw [exec_setOne_ofNat hwf hch (by omega)]
  rfl

/-- What SET_ONE of a legal value to the arm channel stores in ACTIVE, and what ARMED is after it. -/
theorem setOne_armCh_stores {s : State} (hwf : s.cfg.wf = true) (hact : s.lstate = .active) {v : Nat} (hv : v ≤ 1984) :
    ∃ t, exec (.setOne (BitVec.ofNat 32 s.cfg.armCh) (BitVec.ofNat 32 v)) s = .next t ∧
      t = { s with ch := t.ch, outs := [.resp 0] } ∧
      (∀ i < 16, t.readCh i = if i = s.cfg.armCh then v else s.readCh i) ∧
      t.armed = decide (s.cfg.armThreshold < v) := by
  obtain ⟨-, -, -, -, hch, -⟩ := Cfg_wf_facts hwf
  obtain ⟨hok, -⟩ := Cfg_wf_codes hwf
  have hsame : (s.writeCh s.cfg.armCh v).readCh s.cfg.armCh = v := by
    rw [State.readCh_writeCh_same s v hch]; omega
  refine ⟨_, exec_setOne_ofNat hwf hch hv, ?_⟩
  rw [State.whenActive_active (s := s.begin) hact]
  refine ⟨by rw [← hok]; rfl, fun i _ => ?read, ?armed⟩
  case read =>
    change (s.writeCh s.cfg.armCh v).readCh i = _
    split
    case isTrue h => rw [h, hsame]
    case isFalse h => rw [State.readCh_writeCh_other s v h]
  case armed =>
    change decide (s.cfg.armThreshold < (s.writeCh s.cfg.armCh v).readCh s.cfg.armCh) = _
    rw [hsame]

/-- Settles O10: ARM as SET_ONE, with ARM_HIGH above the threshold. -/
theorem armWritesArmHigh : Obligations.ArmWritesArmHigh := by
  intro s hwf
  obtain ⟨-, -, -, -, -, -, hthreshold, hhigh, -⟩ := Cfg_wf_facts hwf
  refine ⟨exec_needsActive_other rfl, fun hact => ?_, exec_arm_eq_setOne hwf⟩
  obtain ⟨t, hexec, hframe, hread, harmed⟩ := setOne_armCh_stores hwf hact hhigh
  exact ⟨t, (exec_arm_eq_setOne hwf).trans hexec, hframe, hread, harmed.trans (decide_eq_true hthreshold)⟩

/-- Settles O11: DISARM as SET_ONE, with ARM_LOW not above the threshold. -/
theorem disarmWritesArmLow : Obligations.DisarmWritesArmLow := by
  intro s hwf
  obtain ⟨-, -, -, -, -, hlow, hthreshold, hhigh, -⟩ := Cfg_wf_facts hwf
  refine ⟨exec_needsActive_other rfl, fun hact => ?_, exec_disarm_eq_setOne hwf⟩
  obtain ⟨t, hexec, hframe, hread, harmed⟩ := setOne_armCh_stores hwf hact (v := s.cfg.armLow) (by omega)
  exact ⟨t, (exec_disarm_eq_setOne hwf).trans hexec, hframe, hread, harmed.trans (decide_eq_false (Nat.not_lt.2 hlow))⟩

end Sys2Proof.Proofs.ChannelStore
end

section
/-! PROOFS. Status, registration and the illegal command: IS_ACTIVE (R128), the four REG commands (R129 to R133), ILLEGAL (R134). -/

namespace Sys2Proof.Proofs.StatusRegistry

open Sys2Proof.Machine Sys2Proof.Proofs.Commands

/-- The flag as one condition (R22). -/
theorem isActive_eq_decide_and (s : State) :
    s.isActive = decide (s.lstate = .active ∧ s.rxAge ≤ s.cfg.linkTimeout) :=
  (Bool.decide_and _ _).symm

/-- Settles O12: the one arm of IS_ACTIVE, and the flag as one condition. -/
theorem isActiveAnswersTheFlag : Obligations.IsActiveAnswersTheFlag := by
  intro s
  rw [← isActive_eq_decide_and]
  rfl

/-- Settles O13: `regSlot` in ACTIVE for each of the four kinds, the state test outside it. -/
theorem registrationReplacesItsSlot : Obligations.RegistrationReplacesItsSlot := by
  intro present token s hwf
  obtain ⟨hok, -⟩ := Cfg_wf_codes hwf
  refine ⟨fun hact => ?active, fun hother i hi => ?other⟩
  case active =>
    have hreg : ∀ k, Host.Outcome.next (s.begin.regSlot k (handlerOf present token)) =
        (.next { s with slots := s.slots.set k (if present then some token else none), outs := [.resp 0] } :
          Host.Outcome State Fault Refusal) :=
      fun k => by rw [regSlot_active hact, hok]; rfl
    exact ⟨hreg .linkstats, hreg .battery, hreg .gps, hreg .attitude⟩
  case other =>
    have hguarded : needsActive i = true := by
      simp only [List.mem_cons, List.not_mem_nil, or_false] at hi
      rcases hi with rfl | rfl | rfl | rfl <;> rfl
    exact exec_needsActive_other hguarded hother

/-- Settles O15: ILLEGAL raises ConfigError at the start of its step, with no test before it. -/
theorem illegalCommandAnswersConfigError : Obligations.IllegalCommandAnswersConfigError := by
  intro w s
  exact congrArg Host.Outcome.next (s.begin_raise .configError)

end Sys2Proof.Proofs.StatusRegistry
end

section
/-! PROOFS. The transmit scheduler: what a TICK does in UNINIT and CLOSED (R158), in CONNECTING (R151) and in ACTIVE (R152 to R154). -/

namespace Sys2Proof.Proofs.TransmitScheduler

open Sys2Proof.Machine Sys2Proof.Proofs.Commands

/-! ## The rate gate (R153) -/

/-- With TX_CNT = 0 the gate is open: one transmission, and the reload, whatever the transport answered. -/
theorem tickTransmit_open {s : State} (wrOk : Bool) (h : s.txCnt = 0) :
    s.tickTransmit wrOk = { s.transmit wrOk with txCnt := s.cfg.txPeriod - 1 } := if_pos h

/-- With TX_CNT not 0 the gate is shut: the count falls and the transport is not called. -/
theorem tickTransmit_shut {s : State} (wrOk : Bool) (h : s.txCnt ≠ 0) :
    s.tickTransmit wrOk = { s with txCnt := s.txCnt - 1 } := if_neg h

/-! ## TICK in ACTIVE -/

/-- A TICK at the open gate: the link ages, and the frame of the store is the step's only output. -/
theorem exec_tick_sends (wrOk : Bool) {s : State} (hact : s.lstate = .active) (hgate : s.txCnt = 0) :
    exec (.tick wrOk) s = .next { s with
      rxAge := min (s.rxAge + 1) (s.cfg.linkTimeout + 1)
      txCnt := s.cfg.txPeriod - 1
      cntTxframes := satInc s.cfg.cntBits s.cntTxframes
      cntTxerr := if wrOk then s.cntTxerr else satInc s.cfg.cntBits s.cntTxerr
      outs := [.txFrame (encodeRcFrame s.cfg s.snapshot)] } := by
  have haged : s.begin.tickAge.txCnt = 0 := hgate
  rw [exec_tick_active wrOk hact, tickTransmit_open wrOk haged, State.transmit_spec]
  rfl

/-- A TICK at the shut gate: the link ages and the gate counts, with no output. -/
theorem exec_tick_holds (wrOk : Bool) {s : State} (hact : s.lstate = .active) (hgate : s.txCnt ≠ 0) :
    exec (.tick wrOk) s = .next { s with
      rxAge := min (s.rxAge + 1) (s.cfg.linkTimeout + 1), txCnt := s.txCnt - 1, outs := [] } := by
  have haged : s.begin.tickAge.txCnt ≠ 0 := hgate
  rw [exec_tick_active wrOk hact, tickTransmit_shut wrOk haged]
  rfl

/-! ## The statements -/

/-- Settles O17: the idle arms of TICK. -/
theorem tickIdlesOutsideTheLink : Obligations.TickIdlesOutsideTheLink :=
  fun wrOk _ hidle => exec_tick_idle wrOk hidle

/-- Settles O18: the two arms of TICK in CONNECTING, with the timeout code of a well-formed configuration. -/
theorem tickCountsTheConnectTimeout : Obligations.TickCountsTheConnectTimeout := by
  intro wrOk s hwf hconn
  obtain ⟨-, -, -, htimeout⟩ := Cfg_wf_codes hwf
  refine ⟨fun hmore => ?waiting, fun hlast => ?timeout⟩
  case waiting => exact exec_tick_waiting wrOk hconn hmore
  case timeout => rw [exec_tick_timeout wrOk hconn hlast, htimeout]

/-- Settles O19: TICK in ACTIVE on the two sides of the rate gate. -/
theorem tickAgesAndTransmits : Obligations.TickAgesAndTransmits :=
  fun wrOk _ hact => ⟨exec_tick_sends wrOk hact, exec_tick_holds wrOk hact⟩

end Sys2Proof.Proofs.TransmitScheduler
end

section
/-! PROOFS. RX_BYTE and the parser: what FrameAt calls VALID (R176), one pass of Drain per answer of FrameAt (R173), Accept (R179, R181), and RX_BYTE outside ACTIVE, with room and with a full buffer (R170 to R172). -/

namespace Sys2Proof.Proofs.ReceiveParser

open Sys2Proof.Machine Sys2Proof.Proofs.Commands

/-! ## FrameAt, one equation per answer about a buffer that has its length byte (R97) -/

theorem frameAt_of_no_sync {cfg : Cfg} {s0 : Byte} (t : List Byte) (hsync : s0 ≠ cfg.rxSync) :
    frameAt cfg (s0 :: t) = .badSync := if_pos hsync

theorem frameAt_sync_cons (cfg : Cfg) (l : Byte) (body : List Byte) :
    frameAt cfg (cfg.rxSync :: l :: body) =
      if l.toNat < cfg.lenMin ∨ cfg.lenMax < l.toNat then .badLen
      else if body.length < l.toNat then .needMore
      else if crc8 cfg (body.take (l.toNat - 1)) ≠ body.getD (l.toNat - 1) 0 then .badCrc
      else .valid l.toNat := if_neg (not_not.2 rfl)

theorem frameAt_of_illegal_length {cfg : Cfg} {l : Byte} (body : List Byte)
    (hlen : l.toNat < cfg.lenMin ∨ cfg.lenMax < l.toNat) : frameAt cfg (cfg.rxSync :: l :: body) = .badLen := by
  rw [frameAt_sync_cons, if_pos hlen]

theorem frameAt_of_partial {cfg : Cfg} {l : Byte} {body : List Byte}
    (hlen : ¬(l.toNat < cfg.lenMin ∨ cfg.lenMax < l.toNat)) (hpart : body.length < l.toNat) :
    frameAt cfg (cfg.rxSync :: l :: body) = .needMore := by
  rw [frameAt_sync_cons, if_neg hlen, if_pos hpart]

theorem frameAt_of_bad_checksum {cfg : Cfg} {l : Byte} {body : List Byte}
    (hlen : ¬(l.toNat < cfg.lenMin ∨ cfg.lenMax < l.toNat)) (hwhole : l.toNat ≤ body.length)
    (hcrc : crc8 cfg (body.take (l.toNat - 1)) ≠ body.getD (l.toNat - 1) 0) :
    frameAt cfg (cfg.rxSync :: l :: body) = .badCrc := by
  rw [frameAt_sync_cons, if_neg hlen, if_neg (Nat.not_lt.2 hwhole), if_pos hcrc]

theorem frameAt_of_checked {cfg : Cfg} {l : Byte} {body : List Byte}
    (hlen : ¬(l.toNat < cfg.lenMin ∨ cfg.lenMax < l.toNat)) (hwhole : l.toNat ≤ body.length)
    (hcrc : crc8 cfg (body.take (l.toNat - 1)) = body.getD (l.toNat - 1) 0) :
    frameAt cfg (cfg.rxSync :: l :: body) = .valid l.toNat := by
  rw [frameAt_sync_cons, if_neg hlen, if_neg (Nat.not_lt.2 hwhole), if_neg (not_not.2 hcrc)]

/-- A buffer without a length byte holds no valid frame. -/
theorem length_ge_two_of_frameAt_valid {cfg : Cfg} {buf : List Byte} {len : Nat} (h : frameAt cfg buf = .valid len) :
    2 ≤ buf.length := by
  match buf with
  | [] => cases h
  | [s0] =>
    rw [frameAt] at h
    split at h <;> cases h
  | s0 :: l :: body => exact Nat.le_add_left 2 body.length

/-- The tests of FrameAt in its order: sync, length, wait, checksum. Every one that fails gives another answer. -/
theorem frameAt_eq_valid_iff (cfg : Cfg) (s0 l : Byte) (body : List Byte) (len : Nat) :
    frameAt cfg (s0 :: l :: body) = .valid len ↔
      s0 = cfg.rxSync ∧ (cfg.lenMin ≤ l.toNat ∧ l.toNat ≤ cfg.lenMax) ∧ l.toNat ≤ body.length ∧
        crc8 cfg (body.take (l.toNat - 1)) = body.getD (l.toNat - 1) 0 ∧ l.toNat = len := by
  by_cases hsync : s0 = cfg.rxSync
  case neg =>
    rw [frameAt_of_no_sync _ hsync]
    exact iff_of_false nofun fun ⟨h, _⟩ => hsync h
  subst hsync
  by_cases hlen : l.toNat < cfg.lenMin ∨ cfg.lenMax < l.toNat
  case pos =>
    rw [frameAt_of_illegal_length _ hlen]
    exact iff_of_false nofun fun ⟨_, h, _⟩ => by omega
  by_cases hwhole : l.toNat ≤ body.length
  case neg =>
    rw [frameAt_of_partial hlen (Nat.not_le.1 hwhole)]
    exact iff_of_false nofun fun ⟨_, _, h, _⟩ => hwhole h
  by_cases hcrc : crc8 cfg (body.take (l.toNat - 1)) = body.getD (l.toNat - 1) 0
  case neg =>
    rw [frameAt_of_bad_checksum hlen hwhole hcrc]
    exact iff_of_false nofun fun ⟨_, _, _, h, _⟩ => hcrc h
  case pos =>
    rw [frameAt_of_checked hlen hwhole hcrc, FrameStatus.valid.injEq]
    exact ⟨fun h => ⟨rfl, by omega, hwhole, hcrc, h⟩, fun ⟨_, _, _, _, h⟩ => h⟩

/-- The byte at offset L + 1 of a buffer is the byte at offset L - 1 behind the sync and the length byte. -/
theorem getD_checksum (s0 l : Byte) (body : List Byte) {len : Nat} (h : 2 ≤ len) :
    (s0 :: l :: body).getD (len + 1) 0 = body.getD (len - 1) 0 := by
  obtain ⟨k, rfl⟩ := Nat.exists_eq_add_of_le' h
  rfl

/-- Settles O28: the tests of FrameAt, with the checksum byte found at its place in the whole buffer. -/
theorem validFramesAreExactlyTheCheckedOnes : Obligations.ValidFramesAreExactlyTheCheckedOnes := by
  intro cfg buf len hwf
  obtain ⟨-, -, -, -, -, -, -, -, -, hmin, -⟩ := Cfg_wf_facts hwf
  match buf with
  | [] | [s0] =>
    refine iff_of_false (fun h => absurd (length_ge_two_of_frameAt_valid h) (by simp)) (fun ⟨h, _⟩ => ?_)
    exact absurd ((Nat.le_add_left 2 len).trans h) (by simp)
  | s0 :: l :: body =>
    rw [frameAt_eq_valid_iff]
    constructor
    · rintro ⟨hsync, ⟨hlo, hhi⟩, hwhole, hcrc, rfl⟩
      exact ⟨Nat.add_le_add_right hwhole 2, hsync, rfl, hlo, hhi, hcrc.trans (getD_checksum s0 l body (by omega)).symm⟩
    · rintro ⟨hwhole, hsync, hl, hlo, hhi, hcrc⟩
      obtain rfl : l.toNat = len := hl
      exact ⟨hsync, ⟨hlo, hhi⟩, Nat.le_of_add_le_add_right hwhole, hcrc.trans (getD_checksum s0 l body (by omega)), rfl⟩

/-! ## Drain -/

/-- Where FrameAt does not wait, a pass that drops bytes leaves a bound that is enough for the rest of Drain (R184). -/
theorem drainLoop_after_drop {s t : State} {answer : FrameStatus} (h : frameAt s.cfg s.rxbuf = answer)
    (hne : answer ≠ .needMore) {n : Nat} (hdrop : t.rxbuf = s.rxbuf.drop (n + 1)) :
    drainLoop s.rxbuf.length t = t.drain := by
  have hpos := List.length_pos_of_ne_nil (ne_nil_of_frameAt (h.trans_ne hne))
  have hshort : t.rxbuf.length < s.rxbuf.length := by rw [hdrop, List.length_drop]; omega
  exact drainLoop_fuel _ _ t hshort (Nat.lt_succ_self _)

theorem drain_of_needMore {s : State} (h : frameAt s.cfg s.rxbuf = .needMore) : s.drain = s := by
  rw [State.drain, drainLoop, h]

theorem drain_of_badSync {s : State} (h : frameAt s.cfg s.rxbuf = .badSync) : s.drain = (s.rxDrop 1).drain := by
  rw [State.drain, drainLoop, h]
  exact drainLoop_after_drop h nofun rfl

theorem drain_of_badLen {s : State} (h : frameAt s.cfg s.rxbuf = .badLen) :
    s.drain = State.drain { s.rxDrop 1 with cntLenerr := satInc s.cfg.cntBits s.cntLenerr } := by
  rw [State.drain, drainLoop, h]
  exact drainLoop_after_drop h nofun rfl

theorem drain_of_badCrc {s : State} (h : frameAt s.cfg s.rxbuf = .badCrc) :
    s.drain = State.drain { s.rxDrop 1 with cntCrcerr := satInc s.cfg.cntBits s.cntCrcerr } := by
  rw [State.drain, drainLoop, h]
  exact drainLoop_after_drop h nofun rfl

theorem drain_of_valid {s : State} {len : Nat} (h : frameAt s.cfg s.rxbuf = .valid len) :
    s.drain = (s.accept len).drain := by
  rw [State.drain, drainLoop, h]
  exact drainLoop_after_drop h nofun (State.accept_rxbuf s len)

/-- Settles O26: one pass of Drain per answer of FrameAt. -/
theorem drainFollowsTheFramingLoop : Obligations.DrainFollowsTheFramingLoop :=
  fun _ => ⟨drain_of_needMore, drain_of_badSync, drain_of_badLen, drain_of_badCrc, fun _ => drain_of_valid⟩

/-! ## Accept -/

theorem deliver_ignored {s : State} {ty : Byte} {d : List Byte} (h : classify s.cfg ty d = none) :
    s.deliver ty d = { s with cntIgnored := satInc s.cfg.cntBits s.cntIgnored } := by
  rw [State.deliver, h]

theorem deliver_record {s : State} {ty : Byte} {d : List Byte} {k : Kind} {r : Record}
    (h : classify s.cfg ty d = some (k, r)) : s.deliver ty d = s.dispatch k r := by
  rw [State.deliver, h]

/-- An empty slot adds nothing to the outputs, a registered one its event. -/
theorem dispatch_eq (s : State) (k : Kind) (r : Record) :
    s.dispatch k r = { s with outs := s.outs ++ ((s.slots.get k).map (.tlm k · r)).toList } := by
  unfold State.dispatch
  split
  case h_1 hslot => rw [hslot]; simp
  case h_2 token hslot => rw [hslot]; rfl

@[simp] theorem dispatch_rxAge (s : State) (k : Kind) (r : Record) : (s.dispatch k r).rxAge = s.rxAge := by
  rw [dispatch_eq]

@[simp] theorem deliver_rxAge (s : State) (ty : Byte) (d : List Byte) : (s.deliver ty d).rxAge = s.rxAge := by
  cases h : classify s.cfg ty d with
  | none => rw [deliver_ignored h]
  | some kr => rw [deliver_record h, dispatch_rxAge]

@[simp] theorem accept_rxAge (s : State) (len : Nat) : (s.accept len).rxAge = 0 := deliver_rxAge _ _ _

/-- An accepted frame makes the link active (R22). -/
theorem isActive_accept {s : State} (h : s.lstate = .active) (len : Nat) : (s.accept len).isActive = true := by
  have hl : (s.accept len).lstate = .active := (ParserStep.accept s len).lstate.trans h
  simp [State.isActive, hl]

/-- Accept reads the type byte and the data from their places in the frame, and leaves the bytes behind the frame. -/
theorem accept_of_frame {s : State} {len : Nat} {s0 l ty crc : Byte} {d tail : List Byte} (hlen : 2 ≤ len)
    (hd : d.length = len - 2) (hbuf : s.rxbuf = s0 :: l :: ty :: (d ++ crc :: tail)) :
    s.accept len =
      State.deliver { s with rxbuf := tail, rxAge := 0, cntRxvalid := satInc s.cfg.cntBits s.cntRxvalid } ty d := by
  obtain rfl : len = d.length + 2 := by omega
  have hty : s.rxbuf.getD 2 0 = ty := by rw [hbuf]; rfl
  have hdata : (s.rxbuf.drop 3).take (d.length + 2 - 2) = d := by rw [hbuf]; simp
  have htail : s.rxbuf.drop (d.length + 2 + 2) = tail := by rw [hbuf]; simp
  rw [State.accept, hty, hdata, State.rxDrop, htail]

/-- Settles O27: Accept of the frame at the head, by the classification of its data. -/
theorem acceptConsumesAndDispatches : Obligations.AcceptConsumesAndDispatches := by
  rintro s len ty d tail hlen hd ⟨s0, l, crc, hbuf⟩
  refine ⟨fun hclass => ?ignored, fun k r hclass => ?record, fun hact => isActive_accept hact len⟩
  case ignored => exact (accept_of_frame hlen hd hbuf).trans (deliver_ignored hclass)
  case record =>
    refine (accept_of_frame hlen hd hbuf).trans ((deliver_record (k := k) (r := r) ?_).trans ?_)
    · exact hclass
    · rw [dispatch_eq]
      cases s.slots.get k <;> rfl

/-! ## RX_BYTE -/

theorem exec_rxByte_active (b : Byte) {s : State} (h : s.lstate = .active) :
    exec (.rxByte b) s = .next (s.begin.feed b) :=
  congrArg Host.Outcome.next (State.receive_active (s := s.begin) h b)

theorem feed_of_room {s : State} (b : Byte) (h : s.rxbuf.length < s.cfg.rxBufMax) :
    s.feed b = (s.rxAppend b).drain := by
  have hroom : s.overflow = s := if_neg (Nat.not_le.2 h)
  rw [State.feed, hroom]

theorem feed_of_full {s : State} (b : Byte) (h : s.cfg.rxBufMax ≤ s.rxbuf.length) :
    s.feed b = State.drain { s with rxbuf := [b], cntOverflow := satInc s.cfg.cntBits s.cntOverflow } := by
  have hfull : s.overflow = { s.rxClear with cntOverflow := satInc s.cfg.cntBits s.cntOverflow } := if_pos h
  rw [State.feed, hfull]
  rfl

theorem settled_drain (s : State) : s.drain.settled = true := beq_iff_eq.2 s.drain_settled

/-- Settles O25: RX_BYTE outside ACTIVE, with room and with a full buffer; each run in ACTIVE ends in Drain, so settled. -/
theorem rxByteAppendsAndDrains : Obligations.RxByteAppendsAndDrains := by
  intro b s
  refine ⟨exec_rxByte_other b, fun hact hroom => ?room, fun hact hfull => ?full, fun hact t hexec => ?settled⟩
  case room =>
    rw [exec_rxByte_active b hact, feed_of_room b (s := s.begin) hroom]
    rfl
  case full =>
    rw [exec_rxByte_active b hact, feed_of_full b (s := s.begin) hfull]
    rfl
  case settled =>
    rw [next_unique hexec (exec_rxByte_active b hact)]
    exact settled_drain _

end Sys2Proof.Proofs.ReceiveParser
end

section
/-! PROOFS. The answers of a step: every instruction either accepts, with no response but RC_OK, or raises one error that changes nothing (R200 to R213). -/

namespace Sys2Proof.Proofs.Exceptions

open Sys2Proof.Machine Sys2Proof.Proofs.Commands Sys2Proof.Proofs.TransmitScheduler

/-- How an instruction answers in a state. A rejection is the raising of one error; which errors those can be is the list of
R202 to R204: AlreadyInitialized, ConfigError, and StateError for the commands of the store and the registry alone. -/
inductive Answer (i : Instr) (s : State) : Prop
  | accepted {t : State} (hexec : exec i s = .next t) (hok : ∀ c, OutEvent.resp c ∈ t.outs → c = s.cfg.rcOk)
  | rejected (e : BlockError) (hexec : exec i s = .next { s with outs := [.resp (e.code s.cfg)] })
      (he : e = .stateError ∧ needsActive i = true ∨ e = .alreadyInitialized ∨ e = .configError)

/-! ## The store and registry commands -/

theorem exec_arm_active {s : State} (hact : s.lstate = .active) :
    exec .arm s = .next (s.begin.writeCh s.cfg.armCh s.cfg.armHigh).respondOk :=
  congrArg Host.Outcome.next (State.whenActive_active (s := s.begin) hact)

theorem exec_disarm_active {s : State} (hact : s.lstate = .active) :
    exec .disarm s = .next (s.begin.writeCh s.cfg.armCh s.cfg.armLow).respondOk :=
  congrArg Host.Outcome.next (State.whenActive_active (s := s.begin) hact)

theorem answer_setAll (vs : List Word32) {s : State} (hact : s.lstate = .active) : Answer (.setAll vs) s := by
  by_cases hbad : vs.length ≠ s.cfg.nch ∨ vs.all s.cfg.valueOk = false
  case pos => exact .rejected .configError (exec_setAll_rejected hact hbad) (.inr (.inr rfl))
  case neg =>
    obtain ⟨hlen, hval⟩ := not_or.1 hbad
    exact .accepted (exec_setAll_stored hact (not_not.1 hlen) (eq_true_of_ne_false hval)) (by simp)

theorem answer_setOne (index value : Word32) {s : State} (hact : s.lstate = .active) :
    Answer (.setOne index value) s := by
  by_cases hbad : s.cfg.indexOk index = false ∨ s.cfg.valueOk value = false
  case pos => exact .rejected .configError (exec_setOne_rejected hact hbad) (.inr (.inr rfl))
  case neg =>
    obtain ⟨hindex, hvalue⟩ := not_or.1 hbad
    exact .accepted (exec_setOne_stored hact (eq_true_of_ne_false hindex) (eq_true_of_ne_false hvalue)) (by simp)

/-- A registration in ACTIVE is accepted whatever its operands. -/
theorem answer_of_regSlot {i : Instr} {s : State} {k : Kind} {h : Option Token} (hact : s.lstate = .active)
    (hexec : exec i s = .next (s.begin.regSlot k h)) : Answer i s := by
  rw [regSlot_active hact] at hexec
  exact .accepted hexec (by simp)

/-- The state test comes first (R212): StateError outside ACTIVE, in ACTIVE the answer of the command's own tests. -/
theorem answer_of_needsActive {i : Instr} (hi : needsActive i = true) (s : State) : Answer i s := by
  by_cases hact : s.lstate = .active
  case neg => exact .rejected .stateError (exec_needsActive_other hi hact) (.inl ⟨rfl, hi⟩)
  case pos =>
    cases i with
    | setAll vs => exact answer_setAll vs hact
    | setOne index value => exact answer_setOne index value hact
    | arm => exact .accepted (exec_arm_active hact) (by simp)
    | disarm => exact .accepted (exec_disarm_active hact) (by simp)
    | regLinkstats _ _ | regBattery _ _ | regGps _ _ | regAttitude _ _ => exact answer_of_regSlot hact rfl
    | _ => cases hi

/-! ## The link, the tick and the inbound bytes -/

theorem answer_init (port : List Byte) (baud : Word32) (s : State) : Answer (.init port baud) s := by
  have hidle (h : s.lstate = .uninit ∨ s.lstate = .closed) : Answer (.init port baud) s :=
    .accepted (exec_init_idle port baud h) (by simp)
  have hbusy (h : s.lstate = .connecting ∨ s.lstate = .active) : Answer (.init port baud) s :=
    .rejected .alreadyInitialized (exec_init_busy port baud h) (.inr (.inl rfl))
  cases hl : s.lstate with
  | uninit => exact hidle (.inl hl)
  | closed => exact hidle (.inr hl)
  | connecting => exact hbusy (.inl hl)
  | active => exact hbusy (.inr hl)

/-- OPEN_RESULT answers the pending INIT by INIT_DONE, which is no response. -/
theorem answer_openResult (r : OpenResult) (s : State) : Answer (.openResult r) s := by
  by_cases hl : s.lstate = .connecting
  case neg => exact .accepted (exec_openResult_other r hl) (by simp)
  case pos =>
    by_cases hr : r = .up
    · subst hr
      exact .accepted (exec_openResult_up hl) (by simp)
    · exact .accepted (exec_openResult_failed hl hr) (by simp)

theorem answer_close (s : State) : Answer .close s := by
  by_cases hl : s.lstate = .active
  · exact .accepted (exec_close_active hl) (by simp)
  · exact .accepted (exec_close_other hl) (by simp)

theorem answer_tick (wrOk : Bool) (s : State) : Answer (.tick wrOk) s := by
  cases hl : s.lstate with
  | uninit => exact .accepted (exec_tick_idle wrOk (.inl hl)) (by simp)
  | closed => exact .accepted (exec_tick_idle wrOk (.inr hl)) (by simp)
  | connecting =>
    by_cases hlast : s.cfg.connectTimeout ≤ s.connCnt + 1
    · exact .accepted (exec_tick_timeout wrOk hl hlast) (by simp)
    · exact .accepted (exec_tick_waiting wrOk hl (Nat.not_le.1 hlast)) (by simp)
  | active =>
    by_cases hgate : s.txCnt = 0
    · exact .accepted (exec_tick_sends wrOk hl hgate) (by simp)
    · exact .accepted (exec_tick_holds wrOk hl hgate) (by simp)

/-- Inbound bytes emit telemetry only, never a response (R180). -/
theorem answer_of_inbound {i : Instr} (hi : (∃ b, i = .rxByte b) ∨ i.isOperation = false) (s : State) :
    Answer i s := by
  obtain ⟨bs, hfed⟩ := exec_inbound hi s
  obtain ⟨-, evs, houts, htlm⟩ := s.begin.receiveAll_frame bs
  refine .accepted hfed fun c hc => ?_
  rw [houts, State.begin_outs, List.nil_append] at hc
  obtain ⟨k, token, r, heq, -⟩ := htlm _ hc
  cases heq

/-! ## Every instruction -/

/-- The inversion of a step by its answer: one case per instruction. -/
theorem exec_answer (i : Instr) (s : State) : Answer i s := by
  cases i with
  | init port baud => exact answer_init port baud s
  | close => exact answer_close s
  | openResult r => exact answer_openResult r s
  | tick wrOk => exact answer_tick wrOk s
  | isActive | reset => exact .accepted rfl (by simp)
  | illegal _ => exact .rejected .configError rfl (.inr (.inr rfl))
  | setAll _ | setOne _ _ | arm | disarm | regLinkstats _ _ | regBattery _ _ | regGps _ _ | regAttitude _ _ =>
    exact answer_of_needsActive rfl s
  | rxByte b => exact answer_of_inbound (.inl ⟨b, rfl⟩) s
  | frameRcChannels _ | frameGps _ _ _ _ _ _ _ | frameBattery _ _ _ _ _ | frameLinkstats _ _ _ _ _
  | frameAttitude _ _ _ _ | frameUnknown _ _ => exact answer_of_inbound (.inr rfl) s

/-- A response other than RC_OK is the code of the one error the instruction raised. -/
theorem rejected_of_resp {i : Instr} {s t : State} {c : Code} (hexec : exec i s = .next t)
    (hc : OutEvent.resp c ∈ t.outs) (hne : c ≠ s.cfg.rcOk) :
    ∃ e : BlockError, c = e.code s.cfg ∧ t = { s with outs := [.resp c] } ∧
      (e = .stateError ∧ needsActive i = true ∨ e = .alreadyInitialized ∨ e = .configError) := by
  cases exec_answer i s with
  | accepted haccept hok =>
    rw [next_unique hexec haccept] at hc
    exact absurd (hok c hc) hne
  | rejected e hreject he =>
    have ht := next_unique hexec hreject
    obtain rfl : c = e.code s.cfg := by simpa [ht] using hc
    exact ⟨e, rfl, ht, he⟩

/-- Settles O14: the state test for the guarded commands; any other command raises only AlreadyInitialized or ConfigError,
whose codes are not StateError's. -/
theorem stateErrorGuardsStoreAndRegistry : Obligations.StateErrorGuardsStoreAndRegistry := by
  intro i s hother
  refine ⟨fun hi => exec_needsActive_other hi hother, fun hi hdistinct t hexec hresp => ?_⟩
  simp only [List.mem_cons, List.not_mem_nil, or_false, not_or] at hdistinct
  obtain ⟨hok, halready, hconfig⟩ := hdistinct
  obtain ⟨e, hcode, -, ⟨-, hguarded⟩ | rfl | rfl⟩ := rejected_of_resp hexec hresp hok
  · exact absurd (hi.symm.trans hguarded) Bool.false_ne_true
  · exact halready hcode
  · exact hconfig hcode

/-- Settles O16: an error response comes from one `raise`, which keeps the state and replaces the outputs. -/
theorem rejectedCommandChangesNothing : Obligations.RejectedCommandChangesNothing := by
  intro i s t c hexec hresp hne
  obtain ⟨_, -, ht, -⟩ := rejected_of_resp hexec hresp hne
  exact ht

end Sys2Proof.Proofs.Exceptions
end

section
/-! PROOFS. What one instruction can do to the state, said once for all of them: one case per arm of the meanings. The claims about every instruction are read off it: who writes the configuration, the inbox and the per-connection state (R27 (8), R53), who emits frames (R155) and telemetry (R181, R210), and what inbound bytes touch (R170, R180). -/

namespace Sys2Proof.Proofs.StepEffects

open Sys2Proof.Machine Sys2Proof.Proofs.Commands Sys2Proof.Proofs.TransmitScheduler Sys2Proof.Proofs.Exceptions

/-! ## The inversion of an instruction -/

/-- RX_BYTE and the six frame rows. -/
def IsInbound (i : Instr) : Prop := (∃ b, i = .rxByte b) ∨ i.isOperation = false

/-- An answer to a host command or query. -/
inductive IsResponse : OutEvent → Prop
  | resp (c : Code) : IsResponse (.resp c)
  | respBool (b : Bool) : IsResponse (.respBool b)

/-- A channel store with no value above 1984 (R12). -/
def StoreLegal (ch : Vector Chan 16) : Prop := ∀ c ∈ ch.toList, c.toNat ≤ 1984

/-- All that an instruction can do: a step that only answers, and one constructor per arm that changes the block. -/
inductive Effect (i : Instr) (s : State) : State → Prop
  | answers {outs : List OutEvent} (houts : ∀ e ∈ outs, IsResponse e) (hidle : isTick i = true → s.lstate ≠ .active) :
      Effect i s { s with outs := outs }
  | resets (hi : i = .reset) :
      Effect i s { s.begin.connReset with lstate := .uninit, initResult := .none }
  | opens (port : List Byte) (baud : Word32) (hi : i = .init port baud) (hl : s.lstate ≠ .active) :
      Effect i s ({ s.begin.connReset with initResult := .none, lstate := .connecting }.emit (.openReq port baud))
  | linkUp (hi : i = .openResult .up) (hl : s.lstate = .connecting) :
      Effect i s { s with
        lstate := .active, initResult := .ok, txCnt := 0, rxAge := s.cfg.linkTimeout + 1, outs := [.initDone s.cfg.rcOk] }
  | linkFails (r : OpenResult) (hi : i = .openResult r) (hl : s.lstate = .connecting) :
      Effect i s { s with lstate := .closed, initResult := .startFail, outs := [.initDone s.cfg.rcLinkStartFailure] }
  | closes (hi : i = .close) (hl : s.lstate = .active) :
      Effect i s { s with lstate := .closed, outs := [.xportClose, .resp s.cfg.rcOk] }
  | waits (wrOk : Bool) (hi : i = .tick wrOk) (hl : s.lstate = .connecting) (hmore : s.connCnt + 1 < s.cfg.connectTimeout) :
      Effect i s { s with connCnt := s.connCnt + 1, outs := [] }
  | timesOut (wrOk : Bool) (hi : i = .tick wrOk) (hl : s.lstate = .connecting)
      (hlast : s.cfg.connectTimeout ≤ s.connCnt + 1) :
      Effect i s { s with
        connCnt := s.connCnt + 1, lstate := .closed, initResult := .timeout,
        outs := [.xportClose, .initDone s.cfg.rcLinkTimeout] }
  | sends (wrOk : Bool) (hi : i = .tick wrOk) (hl : s.lstate = .active) (hgate : s.txCnt = 0) :
      Effect i s { s with
        rxAge := min (s.rxAge + 1) (s.cfg.linkTimeout + 1)
        txCnt := s.cfg.txPeriod - 1
        cntTxframes := satInc s.cfg.cntBits s.cntTxframes
        cntTxerr := if wrOk then s.cntTxerr else satInc s.cfg.cntBits s.cntTxerr
        outs := [.txFrame (encodeRcFrame s.cfg s.snapshot)] }
  | holds (wrOk : Bool) (hi : i = .tick wrOk) (hl : s.lstate = .active) (hgate : s.txCnt ≠ 0) :
      Effect i s { s with
        rxAge := min (s.rxAge + 1) (s.cfg.linkTimeout + 1), txCnt := s.txCnt - 1, outs := [] }
  | stores (ch : Vector Chan 16) (hi : needsActive i = true) (hl : s.lstate = .active)
      (hch : s.cfg.wf = true → StoreLegal s.ch → StoreLegal ch) :
      Effect i s { s with ch := ch, outs := [.resp s.cfg.rcOk] }
  | registers (slots : Slots) (hi : needsActive i = true) (hl : s.lstate = .active) :
      Effect i s { s with slots := slots, outs := [.resp s.cfg.rcOk] }
  | receives (bs : List Byte) (hi : IsInbound i) : Effect i s (s.begin.receiveAll bs)

/-- The instruction answers a next state, by one of its arms. -/
def HasEffect (i : Instr) (s : State) : Prop := ∃ t, exec i s = .next t ∧ Effect i s t

/-! ## The channel store keeps its range -/

theorem storeLegal_writeCh {s : State} (h : StoreLegal s.ch) (c : Nat) {v : Nat} (hv : v ≤ 1984) :
    StoreLegal (s.writeCh c v).ch := by
  intro x hx
  rw [State.writeCh_ch, Vector.toList_setIfInBounds] at hx
  rcases List.mem_or_eq_of_mem_set hx with hold | rfl
  · exact h x hold
  · rw [BitVec.toNat_ofNat]; omega

theorem storeLegal_writeAll (s : State) {vs : List Word32} (hgood : ∀ v ∈ vs, 0 ≤ v.toInt ∧ v.toInt ≤ 1984) :
    StoreLegal (s.writeAll vs).ch := by
  intro x hx
  obtain ⟨i, hi, rfl⟩ := List.getElem_of_mem hx
  have hzero : (0 : Word32).toInt = 0 := rfl
  have hv : 0 ≤ (vs.getD i 0).toInt ∧ (vs.getD i 0).toInt ≤ 1984 := by
    by_cases hlt : i < vs.length
    · rw [List.getD_eq_getElem vs 0 hlt]; exact hgood _ (List.getElem_mem _)
    · rw [List.getD_eq_default vs 0 (Nat.not_lt.1 hlt), hzero]; decide
  have hmod := toNat_mod_of_channel_value hv
  simp only [State.writeAll, Vector.getElem_toList, Vector.getElem_ofFn, BitVec.toNat_setWidth]
  omega

/-! ## One lemma per family of instructions -/

/-- Outside ACTIVE a store or registry command only answers. -/
theorem hasEffect_needsActive_other {i : Instr} {s : State} (hi : needsActive i = true) (hl : s.lstate ≠ .active) :
    HasEffect i s :=
  ⟨_, exec_needsActive_other hi hl, .answers (by simp [IsResponse.resp]) fun _ => hl⟩

theorem hasEffect_setAll (vs : List Word32) {s : State} (hl : s.lstate = .active) : HasEffect (.setAll vs) s := by
  by_cases hbad : vs.length ≠ s.cfg.nch ∨ vs.all s.cfg.valueOk = false
  case pos => exact ⟨_, exec_setAll_rejected hl hbad, .answers (by simp [IsResponse.resp]) nofun⟩
  case neg =>
    obtain ⟨hlen, hval⟩ := not_or.1 hbad
    have hall := List.all_eq_true.1 (eq_true_of_ne_false hval)
    exact ⟨_, exec_setAll_stored hl (not_not.1 hlen) (eq_true_of_ne_false hval), .stores _ rfl hl fun hwf _ =>
      storeLegal_writeAll s fun v hv => (valueOk_iff_of_wf hwf v).1 (hall v hv)⟩

theorem hasEffect_setOne (index value : Word32) {s : State} (hl : s.lstate = .active) :
    HasEffect (.setOne index value) s := by
  by_cases hbad : s.cfg.indexOk index = false ∨ s.cfg.valueOk value = false
  case pos => exact ⟨_, exec_setOne_rejected hl hbad, .answers (by simp [IsResponse.resp]) nofun⟩
  case neg =>
    obtain ⟨hindex, hvalue⟩ := not_or.1 hbad
    refine ⟨_, exec_setOne_stored hl (eq_true_of_ne_false hindex) (eq_true_of_ne_false hvalue),
      .stores _ rfl hl fun hwf hs => storeLegal_writeCh hs _ ?_⟩
    have hrange := (valueOk_iff_of_wf hwf value).1 (eq_true_of_ne_false hvalue)
    have := toNat_of_toInt_nonneg hrange.1
    omega

theorem hasEffect_arm {s : State} (hl : s.lstate = .active) : HasEffect .arm s :=
  ⟨_, exec_arm_active hl, .stores _ rfl hl fun hwf hs => storeLegal_writeCh hs _ <| by
    obtain ⟨-, -, -, -, -, -, -, hhigh, -⟩ := Cfg_wf_facts hwf
    exact hhigh⟩

theorem hasEffect_disarm {s : State} (hl : s.lstate = .active) : HasEffect .disarm s :=
  ⟨_, exec_disarm_active hl, .stores _ rfl hl fun hwf hs => storeLegal_writeCh hs _ <| by
    obtain ⟨-, -, -, -, -, hlow, hthreshold, hhigh, -⟩ := Cfg_wf_facts hwf
    omega⟩

theorem hasEffect_of_regSlot {i : Instr} {s : State} {k : Kind} {h : Option Token} (hi : needsActive i = true)
    (hl : s.lstate = .active) (hexec : exec i s = .next (s.begin.regSlot k h)) : HasEffect i s :=
  ⟨_, hexec.trans (by rw [regSlot_active hl]), .registers _ hi hl⟩

theorem hasEffect_of_needsActive {i : Instr} (hi : needsActive i = true) (s : State) : HasEffect i s := by
  by_cases hl : s.lstate = .active
  case neg => exact hasEffect_needsActive_other hi hl
  case pos =>
    cases i with
    | setAll vs => exact hasEffect_setAll vs hl
    | setOne index value => exact hasEffect_setOne index value hl
    | arm => exact hasEffect_arm hl
    | disarm => exact hasEffect_disarm hl
    | regLinkstats _ _ | regBattery _ _ | regGps _ _ | regAttitude _ _ => exact hasEffect_of_regSlot hi hl rfl
    | _ => cases hi

theorem hasEffect_init (port : List Byte) (baud : Word32) (s : State) : HasEffect (.init port baud) s := by
  have hidle (h : s.lstate = .uninit ∨ s.lstate = .closed) : HasEffect (.init port baud) s :=
    ⟨_, exec_init_idle port baud h, .opens port baud rfl (by rcases h with h | h <;> simp [h])⟩
  have hbusy (h : s.lstate = .connecting ∨ s.lstate = .active) : HasEffect (.init port baud) s :=
    ⟨_, exec_init_busy port baud h, .answers (by simp [IsResponse.resp]) nofun⟩
  cases hl : s.lstate with
  | uninit => exact hidle (.inl hl)
  | closed => exact hidle (.inr hl)
  | connecting => exact hbusy (.inl hl)
  | active => exact hbusy (.inr hl)

theorem hasEffect_openResult (r : OpenResult) (s : State) : HasEffect (.openResult r) s := by
  by_cases hl : s.lstate = .connecting
  case neg => exact ⟨_, exec_openResult_other r hl, .answers (by simp) nofun⟩
  case pos =>
    by_cases hr : r = .up
    · subst hr
      exact ⟨_, exec_openResult_up hl, .linkUp rfl hl⟩
    · exact ⟨_, exec_openResult_failed hl hr, .linkFails r rfl hl⟩

theorem hasEffect_close (s : State) : HasEffect .close s := by
  by_cases hl : s.lstate = .active
  · exact ⟨_, exec_close_active hl, .closes rfl hl⟩
  · exact ⟨_, exec_close_other hl, .answers (by simp [IsResponse.resp]) nofun⟩

theorem hasEffect_tick (wrOk : Bool) (s : State) : HasEffect (.tick wrOk) s := by
  cases hl : s.lstate with
  | uninit => exact ⟨_, exec_tick_idle wrOk (.inl hl), .answers (by simp) fun _ => by simp [hl]⟩
  | closed => exact ⟨_, exec_tick_idle wrOk (.inr hl), .answers (by simp) fun _ => by simp [hl]⟩
  | connecting =>
    by_cases hlast : s.cfg.connectTimeout ≤ s.connCnt + 1
    · exact ⟨_, exec_tick_timeout wrOk hl hlast, .timesOut wrOk rfl hl hlast⟩
    · exact ⟨_, exec_tick_waiting wrOk hl (Nat.not_le.1 hlast), .waits wrOk rfl hl (Nat.not_le.1 hlast)⟩
  | active =>
    by_cases hgate : s.txCnt = 0
    · exact ⟨_, exec_tick_sends wrOk hl hgate, .sends wrOk rfl hl hgate⟩
    · exact ⟨_, exec_tick_holds wrOk hl hgate, .holds wrOk rfl hl hgate⟩

theorem hasEffect_of_inbound {i : Instr} (hi : IsInbound i) (s : State) : HasEffect i s := by
  obtain ⟨bs, hfed⟩ := exec_inbound hi s
  exact ⟨_, hfed, .receives bs hi⟩

/-! ## Every instruction -/

theorem exec_hasEffect (i : Instr) (s : State) : HasEffect i s := by
  cases i with
  | init port baud => exact hasEffect_init port baud s
  | close => exact hasEffect_close s
  | openResult r => exact hasEffect_openResult r s
  | tick wrOk => exact hasEffect_tick wrOk s
  | reset => exact ⟨_, rfl, .resets rfl⟩
  | isActive => exact ⟨_, rfl, .answers (by simp [IsResponse.respBool]) nofun⟩
  | illegal _ => exact ⟨_, rfl, .answers (by simp [IsResponse.resp]) nofun⟩
  | setAll _ | setOne _ _ | arm | disarm | regLinkstats _ _ | regBattery _ _ | regGps _ _ | regAttitude _ _ =>
    exact hasEffect_of_needsActive rfl s
  | rxByte b => exact hasEffect_of_inbound (.inl ⟨b, rfl⟩) s
  | frameRcChannels _ | frameGps _ _ _ _ _ _ _ | frameBattery _ _ _ _ _ | frameLinkstats _ _ _ _ _
  | frameAttitude _ _ _ _ | frameUnknown _ _ => exact hasEffect_of_inbound (.inr rfl) s

/-- The inversion: a next state is the result of one of the arms. -/
theorem effect_of_exec {i : Instr} {s t : State} (hexec : exec i s = .next t) : Effect i s t := by
  obtain ⟨u, hu, heffect⟩ := exec_hasEffect i s
  rwa [next_unique hexec hu]

/-! ## What inbound bytes touch -/

/-- The outputs of fed bytes at the start of a step are telemetry of slots that hold their tokens. -/
theorem tlmFrom_of_mem_receiveAll {s : State} {bs : List Byte} {e : OutEvent}
    (he : e ∈ (s.begin.receiveAll bs).outs) : TlmFrom s.slots e := by
  obtain ⟨-, evs, houts, htlm⟩ := s.begin.receiveAll_frame bs
  rw [houts, State.begin_outs, List.nil_append] at he
  exact htlm e he

/-- Settles O24: inbound bytes are a fed sequence, and outside ACTIVE that is dropped whole. -/
theorem inboundIsDroppedOutsideActive : Obligations.InboundIsDroppedOutsideActive := by
  intro i s hl hi
  obtain ⟨bs, hfed⟩ := exec_inbound hi s
  rw [hfed, State.receiveAll_other (s := s.begin) hl]
  rfl

/-- Settles O34: the frame of a fed sequence. -/
theorem inboundTouchesOnlyTheParser : Obligations.InboundTouchesOnlyTheParser := by
  intro i s t hi hexec
  obtain ⟨bs, hfed⟩ := exec_inbound hi s
  obtain rfl := next_unique hexec hfed
  refine ⟨(s.begin.receiveAll_frame bs).1, fun e he => ?_⟩
  obtain ⟨k, token, r, heq, -⟩ := tlmFrom_of_mem_receiveAll he
  exact ⟨k, token, r, heq⟩

/-! ## The outputs of a step -/

/-- Settles O20: of the arms only that of the open gate has a frame among its outputs. -/
theorem onlyTheRateGateEmitsFrames : Obligations.OnlyTheRateGateEmitsFrames := by
  intro i s t f hexec hf
  cases effect_of_exec hexec with
  | sends wrOk hi hl hgate =>
    obtain rfl : f = encodeRcFrame s.cfg s.snapshot := by simpa using hf
    exact ⟨wrOk, hi, hl, hgate, rfl, rfl⟩
  | answers houts _ => cases houts _ hf
  | receives bs _ =>
    obtain ⟨k, token, r, heq, -⟩ := tlmFrom_of_mem_receiveAll hf
    cases heq
  | _ => simp at hf

/-- The kind whose layout a record has (R69 to R72). -/
def kindOf : Record → Kind
  | .linkStats _ _ _ _ => .linkstats
  | .battery _ _ _ => .battery
  | .gps _ _ _ _ _ => .gps
  | .attitude _ _ _ => .attitude

theorem kindOf_classify {cfg : Cfg} {ty : Byte} {d : List Byte} {k : Kind} {r : Record}
    (h : classify cfg ty d = some (k, r)) : kindOf r = k := by
  unfold classify at h
  split_ifs at h <;> obtain ⟨rfl, rfl⟩ := Prod.mk.inj (Option.some.inj h) <;> rfl

/-- Every telemetry event among the outputs has a record of its kind. -/
def RecordsFit (s : State) : Prop := ∀ k token r, OutEvent.tlm k token r ∈ s.outs → kindOf r = k

theorem recordsFit_dispatch {s : State} (h : RecordsFit s) {k : Kind} {r : Record} (hr : kindOf r = k) :
    RecordsFit (s.dispatch k r) := by
  unfold State.dispatch
  split
  case h_1 => exact h
  case h_2 token _ =>
    intro k' token' r' hmem
    rcases List.mem_append.1 hmem with hold | hnew
    · exact h k' token' r' hold
    · obtain ⟨rfl, -, rfl⟩ := OutEvent.tlm.inj (List.mem_singleton.1 hnew)
      exact hr

theorem recordsFit_deliver {s : State} (h : RecordsFit s) (ty : Byte) (d : List Byte) : RecordsFit (s.deliver ty d) := by
  unfold State.deliver
  split
  case h_1 => exact h
  case h_2 k r hclass => exact recordsFit_dispatch h (kindOf_classify hclass)

theorem recordsFit_accept {s : State} (h : RecordsFit s) (len : Nat) : RecordsFit (s.accept len) :=
  recordsFit_deliver (s := { s.rxDrop (len + 2) with cntRxvalid := satInc s.cfg.cntBits s.cntRxvalid, rxAge := 0 }) h _ _

theorem recordsFit_drainLoop (n : Nat) {s : State} (h : RecordsFit s) : RecordsFit (drainLoop n s) := by
  induction n generalizing s with
  | zero => exact h
  | succ n ih =>
    unfold drainLoop
    split
    case h_1 => exact h
    case h_2 => exact ih (s := s.rxDrop 1) h
    case h_3 => exact ih (s := { s.rxDrop 1 with cntLenerr := _ }) h
    case h_4 => exact ih (s := { s.rxDrop 1 with cntCrcerr := _ }) h
    case h_5 len _ => exact ih (recordsFit_accept h len)

theorem recordsFit_receive {s : State} (h : RecordsFit s) (b : Byte) : RecordsFit (s.receive b) := by
  by_cases hl : s.lstate = .active
  case neg => rwa [State.receive_other hl]
  case pos =>
    obtain ⟨u, hu, hfeed, -⟩ := s.feed_spec b
    rw [State.receive_active hl, hfeed]
    refine recordsFit_drainLoop _ ?_
    rcases hu with ⟨-, rfl⟩ | ⟨-, rfl⟩ <;> exact h

theorem recordsFit_receiveAll {s : State} (h : RecordsFit s) (bs : List Byte) : RecordsFit (s.receiveAll bs) := by
  induction bs generalizing s with
  | nil => exact h
  | cons b bs ih => exact ih (recordsFit_receive h b)

/-- Telemetry comes from inbound bytes alone, and in ACTIVE. -/
theorem receives_of_tlm {i : Instr} {s t : State} {k : Kind} {token : Token} {r : Record} (hexec : exec i s = .next t)
    (hmem : OutEvent.tlm k token r ∈ t.outs) : s.lstate = .active ∧ ∃ bs, t = s.begin.receiveAll bs := by
  cases effect_of_exec hexec with
  | receives bs _ =>
    refine ⟨?_, bs, rfl⟩
    by_contra hl
    rw [State.receiveAll_other (s := s.begin) hl] at hmem
    cases hmem
  | answers houts _ => cases houts _ hmem
  | _ => simp at hmem

/-- Settles O35: a telemetry event is one of fed bytes in ACTIVE, with the token its slot holds and the record Classify
answered for its kind. -/
theorem telemetryNeedsAnEnabledSlot : Obligations.TelemetryNeedsAnEnabledSlot := by
  intro i s t k token r hexec hmem
  obtain ⟨hl, bs, rfl⟩ := receives_of_tlm hexec hmem
  obtain ⟨k', token', r', heq, hslot⟩ := tlmFrom_of_mem_receiveAll hmem
  obtain ⟨rfl, rfl, rfl⟩ := OutEvent.tlm.inj heq
  have hfit : RecordsFit s.begin := nofun
  have hkind := recordsFit_receiveAll hfit bs k token r hmem
  refine ⟨by simp [State.tlmEnabled, hl, hslot], hslot, ?_⟩
  cases r <;> exact hkind.symm

/-! ## What no instruction writes -/

/-- Settles O59: no arm writes `cfg` or `inbox`. -/
theorem execKeepsConfigAndInbox : Obligations.ExecKeepsConfigAndInbox := by
  intro i s t hexec
  cases effect_of_exec hexec with
  | receives bs _ => rw [(s.begin.receiveAll_frame bs).1]; exact ⟨rfl, rfl⟩
  | _ => exact ⟨rfl, rfl⟩

/-- Settles O60: outside ACTIVE the arms that reach the per-connection state are those of the three instructions. -/
theorem nothingReachesTheHandleOutsideActive : Obligations.NothingReachesTheHandleOutsideActive := by
  intro i s t hother hexec hreset hinit hopen
  cases effect_of_exec hexec with
  | resets hi => exact absurd hi hreset
  | opens port baud hi _ => exact absurd hi (hinit port baud)
  | linkUp hi _ => exact absurd hi (hopen .up)
  | linkFails r hi _ => exact absurd hi (hopen r)
  | closes _ hl | sends _ _ hl _ | holds _ _ hl _ | stores _ _ hl _ | registers _ _ hl => exact absurd hl hother
  | answers | waits | timesOut => exact ⟨rfl, rfl, rfl, rfl, rfl⟩
  | receives bs _ =>
    rw [State.receiveAll_other (s := s.begin) hother]
    exact ⟨rfl, rfl, rfl, rfl, rfl⟩

end Sys2Proof.Proofs.StepEffects
end

section
/-! PROOFS. The step: what it refuses and what it runs (R4, R6, R74, R231), and the invariants it keeps: a settled parser (R171), no overflow at the defaults (R186), and the legal states of R27, which the post-RESET state meets. -/

namespace Sys2Proof.Proofs.StepInvariants

open Sys2Proof.Machine Sys2Proof.Proofs.Commands Sys2Proof.Proofs.ReceiveParser Sys2Proof.Proofs.StepEffects

/-! ## One equation per way a step can go -/

theorem step_of_badConfig {s : State} (h : s.cfg.wf = false) : step s = .refused .badConfig := if_pos h

theorem step_of_illegal {s : State} (hwf : s.cfg.wf = true) (h : s.legal = false) :
    step s = .refused .unreachableState := by
  rw [step, if_neg (by simp [hwf]), if_pos h]

theorem fetch_nil {s : State} (h : s.inbox = []) : s.fetch = none := by rw [State.fetch, h]

theorem fetch_cons {s : State} {w : OpWord} {rest : List OpWord} (h : s.inbox = w :: rest) :
    s.fetch = some (w, { s with inbox := rest }) := by rw [State.fetch, h]

theorem step_of_empty {s : State} (hwf : s.cfg.wf = true) (hlegal : s.legal = true) (h : s.inbox = []) :
    step s = .next s.begin := by
  simp only [step, hwf, hlegal, fetch_nil h, Bool.true_eq_false, if_false]

theorem step_of_operation {s : State} {w : OpWord} {rest : List OpWord} {i : Instr} (hwf : s.cfg.wf = true)
    (hlegal : s.legal = true) (h : s.inbox = w :: rest) (hw : decodeWord w = .ok i) :
    step s = exec i { s with inbox := rest } := by
  simp only [step, hwf, hlegal, fetch_cons h, hw, Bool.true_eq_false, if_false]

theorem step_of_rejected_word {s : State} {w : OpWord} {rest : List OpWord} {r : Reject} (hwf : s.cfg.wf = true)
    (hlegal : s.legal = true) (h : s.inbox = w :: rest) (hw : decodeWord w = .error r) :
    step s = .refused (.notAnOperation r) := by
  simp only [step, hwf, hlegal, fetch_cons h, hw, Bool.true_eq_false, if_false]

/-- The inversion of a step: it idles, or it ran the oldest word of the inbox. -/
theorem step_cases {s t : State} (h : step s = .next t) :
    t = s.begin ∨ ∃ w rest i, s.inbox = w :: rest ∧ decodeWord w = .ok i ∧ exec i { s with inbox := rest } = .next t := by
  by_cases hwf : s.cfg.wf = true
  case neg => rw [step_of_badConfig (Bool.not_eq_true _ ▸ hwf)] at h; cases h
  by_cases hlegal : s.legal = true
  case neg => rw [step_of_illegal hwf (Bool.not_eq_true _ ▸ hlegal)] at h; cases h
  cases hin : s.inbox with
  | nil =>
    rw [step_of_empty hwf hlegal hin] at h
    exact .inl (Host.Outcome.next.inj h).symm
  | cons w rest =>
    cases hw : decodeWord w with
    | error r => rw [step_of_rejected_word hwf hlegal hin hw] at h; cases h
    | ok i =>
      rw [step_of_operation hwf hlegal hin hw] at h
      exact .inr ⟨w, rest, i, rfl, hw, h⟩

/-- Settles O54: the two arms of a step that answer a next state. -/
theorem stepRunsTheDecodedOperation : Obligations.StepRunsTheDecodedOperation :=
  fun _ hwf hlegal => ⟨fun _ _ _ hin hw => step_of_operation hwf hlegal hin hw, step_of_empty hwf hlegal⟩

/-- Settles O55: the three refusals, in the order of the tests. -/
theorem stepRefusesWhatHasNoMeaning : Obligations.StepRefusesWhatHasNoMeaning :=
  fun _ => ⟨step_of_badConfig, step_of_illegal, fun hwf hlegal _ _ _ hin hw => step_of_rejected_word hwf hlegal hin hw⟩

/-- Settles O56: a decoded operation answers a next state, and no instruction writes the inbox. -/
theorem stepIsTotalOnOperations : Obligations.StepIsTotalOnOperations := by
  intro s hwf hlegal hdecoded
  cases hin : s.inbox with
  | nil => exact ⟨_, step_of_empty hwf hlegal hin, hin⟩
  | cons w rest =>
    obtain ⟨i, hw⟩ := hdecoded w (by rw [hin]; rfl)
    obtain ⟨t, hexec⟩ := exec_answers_next i { s with inbox := rest }
    obtain ⟨-, hinbox⟩ := execKeepsConfigAndInbox i _ t hexec
    exact ⟨t, (step_of_operation hwf hlegal hin hw).trans hexec, hinbox⟩

/-! ## A settled parser (R171) -/

theorem settled_iff (s : State) : s.settled = true ↔ frameAt s.cfg s.rxbuf = .needMore := beq_iff_eq

/-- The parser's state is the configuration and the buffer. -/
theorem settled_congr {s t : State} (hcfg : t.cfg = s.cfg) (hbuf : t.rxbuf = s.rxbuf) : t.settled = s.settled := by
  rw [State.settled, State.settled, hcfg, hbuf]

theorem settled_of_empty {s : State} (h : s.rxbuf = []) : s.settled = true := by
  rw [settled_iff, h]; rfl

theorem settled_receive {s : State} (h : s.settled = true) (b : Byte) : (s.receive b).settled = true := by
  by_cases hl : s.lstate = .active
  · rw [State.receive_active hl]
    exact settled_drain _
  · rwa [State.receive_other hl]

theorem settled_receiveAll {s : State} (h : s.settled = true) (bs : List Byte) : (s.receiveAll bs).settled = true := by
  induction bs generalizing s with
  | nil => exact h
  | cons b bs ih => exact ih (settled_receive h b)

/-- No instruction unsettles the parser: it clears the buffer, feeds it, or leaves it. -/
theorem settled_of_exec {i : Instr} {s t : State} (h : s.settled = true) (hexec : exec i s = .next t) :
    t.settled = true := by
  cases effect_of_exec hexec with
  | resets | opens => exact settled_of_empty rfl
  | receives bs _ => exact settled_receiveAll (s := s.begin) h bs
  | _ => exact h

/-- Settles O33: an idle step leaves the buffer, any other runs an instruction. -/
theorem everyStepKeepsTheParserSettled : Obligations.EveryStepKeepsTheParserSettled := by
  intro s t h hstep
  rcases step_cases hstep with rfl | ⟨w, rest, i, -, -, hexec⟩
  · exact h
  · exact settled_of_exec (s := { s with inbox := rest }) h hexec

/-! ## No overflow (R186) -/

/-- A settled buffer is a proper part of one candidate frame, so it is shorter than the longest frame. -/
theorem length_lt_of_needMore {cfg : Cfg} {buf : List Byte} (h : frameAt cfg buf = .needMore) :
    buf.length < cfg.lenMax + 2 := by
  match buf with
  | [] | [_] => simp
  | s0 :: l :: body =>
    obtain rfl : s0 = cfg.rxSync := by
      rcases head_of_needMore h with hnil | ⟨t, ht⟩
      · cases hnil
      · exact (List.cons.inj ht).1
    rw [frameAt_sync_cons] at h
    split_ifs at h with hlen hpart
    simp only [List.length_cons]
    omega

/-- Where a whole frame fits the buffer, a settled parser has room for one byte more. -/
theorem room_of_settled {s : State} (hcap : s.cfg.lenMax + 2 ≤ s.cfg.rxBufMax) (h : s.settled = true) :
    s.rxbuf.length < s.cfg.rxBufMax :=
  (length_lt_of_needMore ((settled_iff s).1 h)).trans_le hcap

theorem receive_keeps_cntOverflow {s : State} (hcap : s.cfg.lenMax + 2 ≤ s.cfg.rxBufMax) (h : s.settled = true)
    (b : Byte) : (s.receive b).cntOverflow = s.cntOverflow ∧ (s.receive b).cfg = s.cfg := by
  by_cases hl : s.lstate = .active
  case neg => rw [State.receive_other hl]; exact ⟨rfl, rfl⟩
  case pos =>
    have hstep := State.drain_step (s.rxAppend b)
    rw [State.receive_active hl, feed_of_room b (room_of_settled hcap h)]
    exact ⟨hstep.cntOverflow, hstep.cfg⟩

theorem receiveAll_keeps_cntOverflow {s : State} (hcap : s.cfg.lenMax + 2 ≤ s.cfg.rxBufMax) (h : s.settled = true)
    (bs : List Byte) : (s.receiveAll bs).cntOverflow = s.cntOverflow := by
  induction bs generalizing s with
  | nil => rfl
  | cons b bs ih =>
    obtain ⟨hcnt, hcfg⟩ := receive_keeps_cntOverflow hcap h b
    rw [State.receiveAll_cons, ih (by rwa [hcfg]) (settled_receive h b), hcnt]

/-- Settles O32: the fed bytes keep the parser settled, and a settled parser has room for the next byte. -/
theorem overflowIsUnreachableAtTheDefaults : Obligations.OverflowIsUnreachableAtTheDefaults := by
  intro i s t _ hcap h hi hexec
  obtain ⟨bs, hfed⟩ := exec_inbound hi s
  have hsettled := settled_of_exec h hexec
  obtain ⟨hcfg, -⟩ := execKeepsConfigAndInbox i s t hexec
  refine ⟨?_, ?_, hsettled⟩
  · rw [next_unique hexec hfed]
    exact receiveAll_keeps_cntOverflow (s := s.begin) hcap h bs
  · rw [← hcfg] at hcap ⊢
    exact room_of_settled hcap hsettled

end Sys2Proof.Proofs.StepInvariants
end

section
/-! PROOFS. The legal states (R27): the invariants as a structure, kept by the parser and by every arm of an instruction, and met by the post-RESET state (R25, R120, R230). -/

namespace Sys2Proof.Proofs.LegalStates

open Sys2Proof.Machine Sys2Proof.Proofs.StepEffects Sys2Proof.Proofs.StepInvariants

/-! ## The invariants of R27, field by field -/

/-- R27 (4) to (6). That the per-connection state is reset is said of the block: outputs and waiting words are free. -/
structure LinkLegal (s : State) : Prop where
  connecting : s.lstate = .connecting → s.initResult = .none ∧ s.connCnt < s.cfg.connectTimeout
  active : s.lstate = .active → s.initResult = .ok
  uninit : s.lstate = .uninit → s.initResult = .none ∧ s.connReset.toBlock = s.toBlock

theorem LinkLegal.of_active {s : State} (hl : s.lstate = .active) (hok : s.initResult = .ok) : LinkLegal s :=
  ⟨by simp [hl], fun _ => hok, by simp [hl]⟩

/-- CLOSED says nothing of the rest. -/
theorem LinkLegal.of_closed {s : State} (hl : s.lstate = .closed) : LinkLegal s :=
  ⟨by simp [hl], by simp [hl], by simp [hl]⟩

/-- R27 for a well-formed configuration. -/
structure Legal (s : State) : Prop where
  store : StoreLegal s.ch
  counters : CountersFit s
  room : s.rxbuf.length ≤ s.cfg.rxBufMax
  rxAge : s.rxAge ≤ s.cfg.linkTimeout + 1
  txCnt : s.txCnt ≤ s.cfg.txPeriod - 1
  connCnt : s.connCnt ≤ s.cfg.connectTimeout
  link : LinkLegal s
  head : s.rxbuf = [] ∨ ∃ t, s.rxbuf = s.cfg.rxSync :: t

/-- ConnReset keeps what stands outside the block. -/
theorem connReset_eq_self_iff (s : State) : s.connReset = s ↔ s.connReset.toBlock = s.toBlock := by
  refine ⟨congrArg State.toBlock, fun h => ?_⟩
  rw [State.mk.injEq]
  exact ⟨h, rfl, rfl, rfl⟩

theorem linkConsistent_iff (s : State) : s.linkConsistent = true ↔ LinkLegal s := by
  unfold State.linkConsistent
  constructor
  · intro h
    refine ⟨fun hl => ?_, fun hl => ?_, fun hl => ?_⟩ <;> simp only [hl, decide_eq_true_eq] at h
    · exact h
    · exact h
    · exact ⟨h.1, (connReset_eq_self_iff s).1 h.2⟩
  · rintro ⟨hconn, hact, hun⟩
    split
    case h_1 hl => exact decide_eq_true (hconn hl)
    case h_2 hl => exact decide_eq_true (hact hl)
    case h_3 hl => exact decide_eq_true ⟨(hun hl).1, (connReset_eq_self_iff s).2 (hun hl).2⟩
    case h_4 => rfl

theorem headOk_iff (s : State) : s.headOk = true ↔ s.rxbuf = [] ∨ ∃ t, s.rxbuf = s.cfg.rxSync :: t := by
  unfold State.headOk
  split
  case h_1 hbuf => simp [hbuf]
  case h_2 b t hbuf => simp [hbuf]

theorem inWidths_iff {s : State} (hwf : s.cfg.wf = true) :
    s.inWidths = true ↔ StoreLegal s.ch ∧ CountersFit s ∧ s.rxbuf.length ≤ s.cfg.rxBufMax ∧
      s.rxAge ≤ s.cfg.linkTimeout + 1 ∧ s.txCnt ≤ s.cfg.txPeriod - 1 ∧ s.connCnt ≤ s.cfg.connectTimeout := by
  obtain ⟨-, -, hmax, -⟩ := Cfg_wf_facts hwf
  simp only [State.inWidths, Bool.and_eq_true, List.all_eq_true, decide_eq_true_eq, Memory.wf_iff, hmax, StoreLegal,
    CountersFit, and_assoc]

theorem legal_iff {s : State} (hwf : s.cfg.wf = true) : s.legal = true ↔ Legal s := by
  rw [State.legal, Bool.and_eq_true, Bool.and_eq_true, inWidths_iff hwf, linkConsistent_iff, headOk_iff]
  constructor
  · rintro ⟨⟨⟨hstore, hcnt, hroom, hage, htx, hconn⟩, hlink⟩, hhead⟩
    exact ⟨hstore, hcnt, hroom, hage, htx, hconn, hlink, hhead⟩
  · rintro ⟨hstore, hcnt, hroom, hage, htx, hconn, hlink, hhead⟩
    exact ⟨⟨⟨hstore, hcnt, hroom, hage, htx, hconn⟩, hlink⟩, hhead⟩

/-- The invariants speak of the configuration and the block. -/
theorem Legal.congr {s t : State} (h : Legal s) (hcfg : t.cfg = s.cfg) (hblock : t.toBlock = s.toBlock) : Legal t := by
  obtain ⟨b, cfg, inbox, outs⟩ := s
  obtain ⟨b', cfg', inbox', outs'⟩ := t
  subst hcfg hblock
  obtain ⟨hstore, hcnt, hroom, hage, htx, hconn, ⟨hc, ha, hu⟩, hhead⟩ := h
  exact ⟨hstore, hcnt, hroom, hage, htx, hconn, ⟨hc, ha, hu⟩, hhead⟩

/-! ## The per-connection state after RESET and INIT -/

theorem storeLegal_centre {cfg : Cfg} (hwf : cfg.wf = true) :
    StoreLegal (Vector.replicate 16 (BitVec.ofNat 11 cfg.chCenter)) := by
  obtain ⟨-, -, -, hcentre, -⟩ := Cfg_wf_facts hwf
  intro c hc
  obtain rfl : c = BitVec.ofNat 11 cfg.chCenter := by simpa using hc
  rw [hcentre]
  decide

theorem connectTimeout_pos {cfg : Cfg} (hwf : cfg.wf = true) : 1 ≤ cfg.connectTimeout := by
  obtain ⟨-, -, -, -, -, -, -, -, -, -, -, -, -, -, htimeout, -⟩ := Cfg_wf_facts hwf
  exact htimeout

/-- A reset per-connection state is legal in every link state but ACTIVE. -/
theorem legal_of_connReset {s : State} (hwf : s.cfg.wf = true) {l : LState} (hl : l ≠ .active) :
    Legal { s.connReset with lstate := l, initResult := .none } where
  store := storeLegal_centre hwf
  counters := by simp [CountersFit]
  room := Nat.zero_le _
  rxAge := Nat.le_refl _
  txCnt := Nat.zero_le _
  connCnt := Nat.zero_le _
  link := ⟨fun _ => ⟨rfl, connectTimeout_pos hwf⟩, fun h => absurd h hl, fun _ => ⟨rfl, rfl⟩⟩
  head := .inl rfl

/-- Settles O2: the post-RESET state is a reset per-connection state in UNINIT. -/
theorem postResetStateIsLegal : Obligations.PostResetStateIsLegal := by
  refine ⟨fun cfg hwf => ⟨?_, settled_of_empty rfl, rfl, rfl⟩, rfl, by decide⟩
  exact (legal_iff (s := State.postReset cfg) hwf).2
    (legal_of_connReset (s := State.postReset cfg) hwf (l := .uninit) (by decide))

/-! ## Inbound bytes -/

/-- A run of the framing loop in ACTIVE keeps the invariants, whatever it was started on, if the buffer it leaves is legal. -/
theorem Legal.of_parserStep {s t : State} (h : Legal s) (hl : s.lstate = .active) {buf : List Byte} {n : Nat}
    (hstep : ParserStep { s with rxbuf := buf, cntOverflow := n } t) (hn : n ≤ 2 ^ s.cfg.cntBits - 1)
    (hroom : t.rxbuf.length ≤ s.cfg.rxBufMax) (hhead : t.rxbuf = [] ∨ ∃ u, t.rxbuf = t.cfg.rxSync :: u) : Legal t := by
  have hcounters : CountersFit { s with rxbuf := buf, cntOverflow := n } := by
    have := h.counters
    simp only [CountersFit, List.forall_mem_cons, List.not_mem_nil] at this ⊢
    tauto
  have hcfg : t.cfg = s.cfg := hstep.cfg
  have hlstate : t.lstate = .active := hstep.lstate.trans hl
  have hage : t.rxAge = s.rxAge ∨ t.rxAge = 0 := hstep.rxAge
  have := h.rxAge
  exact {
    store := by rw [hstep.ch]; exact h.store
    counters := hstep.fit hcounters
    room := by rwa [hcfg]
    rxAge := by rw [hcfg]; omega
    txCnt := by rw [hcfg, hstep.txCnt]; exact h.txCnt
    connCnt := by rw [hcfg, hstep.connCnt]; exact h.connCnt
    link := .of_active hlstate (hstep.initResult.trans (h.link.active hl))
    head := hhead }

theorem legal_receive {s : State} (hwf : s.cfg.wf = true) (h : Legal s) (b : Byte) : Legal (s.receive b) := by
  by_cases hl : s.lstate = .active
  case neg => rwa [State.receive_other hl]
  case pos =>
    obtain ⟨-, -, -, -, -, -, -, -, -, -, -, -, hcap, -⟩ := Cfg_wf_facts hwf
    obtain ⟨u, hu, -, hstep, hsettled⟩ := s.feed_spec b
    have hroom : (s.feed b).rxbuf.length ≤ s.cfg.rxBufMax := (Memory.wf_iff _ _).1 (s.feed_wf b (by omega))
    have hhead := head_of_needMore hsettled
    rw [State.receive_active hl]
    rcases hu with ⟨-, rfl⟩ | ⟨-, rfl⟩
    · exact h.of_parserStep hl hstep (satInc_le _ _) hroom hhead
    · exact h.of_parserStep hl hstep (h.counters _ (by simp)) hroom hhead

theorem legal_receiveAll {s : State} (hwf : s.cfg.wf = true) (h : Legal s) (bs : List Byte) : Legal (s.receiveAll bs) := by
  induction bs generalizing s with
  | nil => exact h
  | cons b bs ih =>
    have hcfg : (s.receive b).cfg = s.cfg := by
      rw [show s.receive b = s.receiveAll [b] from rfl, (s.receiveAll_frame [b]).1]
    exact ih (by rwa [hcfg]) (legal_receive hwf h b)

/-! ## Every instruction -/

theorem countersFit_of_transmit {s : State} (h : CountersFit s) (wrOk : Bool) : CountersFit { s with
    cntTxframes := satInc s.cfg.cntBits s.cntTxframes
    cntTxerr := if wrOk then s.cntTxerr else satInc s.cfg.cntBits s.cntTxerr } := by
  have hframes := satInc_le s.cfg.cntBits s.cntTxframes
  have herr := satInc_le s.cfg.cntBits s.cntTxerr
  simp only [CountersFit, List.forall_mem_cons, List.not_mem_nil] at h ⊢
  cases wrOk <;> simp <;> tauto

theorem legal_of_exec {i : Instr} {s t : State} (hwf : s.cfg.wf = true) (h : Legal s) (hexec : exec i s = .next t) :
    Legal t := by
  have ⟨hstore, hcounters, hroom, hage, htx, hconn, hlink, hhead⟩ := h
  cases effect_of_exec hexec with
  | answers => exact h.congr rfl rfl
  | resets => exact legal_of_connReset (s := s.begin) hwf (by decide)
  | opens port baud _ _ =>
    exact (legal_of_connReset (s := s.begin) hwf (l := .connecting) (by decide)).congr rfl rfl
  | linkUp => exact ⟨hstore, hcounters, hroom, Nat.le_refl _, Nat.zero_le _, hconn, .of_active rfl rfl, hhead⟩
  | linkFails | closes => exact ⟨hstore, hcounters, hroom, hage, htx, hconn, .of_closed rfl, hhead⟩
  | waits _ _ hl hmore =>
    have hnone := (hlink.connecting hl).1
    exact ⟨hstore, hcounters, hroom, hage, htx, hmore.le, ⟨fun _ => ⟨hnone, hmore⟩, by simp [hl], by simp [hl]⟩, hhead⟩
  | timesOut _ _ hl _ =>
    have hlt := (hlink.connecting hl).2
    exact ⟨hstore, hcounters, hroom, hage, htx, hlt, .of_closed rfl, hhead⟩
  | sends wrOk _ hl _ =>
    have hfit := countersFit_of_transmit hcounters wrOk
    exact ⟨hstore, hfit, hroom, Nat.min_le_right _ _, Nat.le_refl _, hconn, .of_active hl (hlink.active hl), hhead⟩
  | holds _ _ hl _ =>
    exact ⟨hstore, hcounters, hroom, Nat.min_le_right _ _, (Nat.sub_le _ _).trans htx, hconn,
      .of_active hl (hlink.active hl), hhead⟩
  | stores ch _ hl hch =>
    exact ⟨hch hwf hstore, hcounters, hroom, hage, htx, hconn, .of_active hl (hlink.active hl), hhead⟩
  | registers slots _ hl =>
    exact ⟨hstore, hcounters, hroom, hage, htx, hconn, .of_active hl (hlink.active hl), hhead⟩
  | receives bs _ =>
    have hbegin : Legal s.begin := h.congr rfl rfl
    exact legal_receiveAll (s := s.begin) hwf hbegin bs

/-- Settles O57: an idle step keeps the block, any other runs an instruction, and none writes the configuration. -/
theorem everyStepKeepsTheStateLegal : Obligations.EveryStepKeepsTheStateLegal := by
  intro s t hwf hlegal hstep
  have h := (legal_iff hwf).1 hlegal
  rcases step_cases hstep with rfl | ⟨w, rest, i, -, -, hexec⟩
  · exact ⟨(legal_iff (s := s.begin) hwf).2 (h.congr rfl rfl), rfl⟩
  · obtain ⟨hcfg, -⟩ := execKeepsConfigAndInbox i _ t hexec
    have hrest : Legal { s with inbox := rest } := h.congr rfl rfl
    exact ⟨(legal_iff (by rw [hcfg]; exact hwf)).2 (legal_of_exec (s := { s with inbox := rest }) hwf hrest hexec), hcfg⟩

end Sys2Proof.Proofs.LegalStates
end

section
/-! PROOFS. The states RESET and an accepted INIT answer (R120, R121), and that what an instruction does depends on the configuration, the block and the instruction alone (R4, R24). -/

namespace Sys2Proof.Proofs.BlockStep

open Sys2Proof.Machine Sys2Proof.Proofs.Commands Sys2Proof.Proofs.TransmitScheduler Sys2Proof.Proofs.Exceptions

/-! ## RESET and INIT -/

/-- The state with every element of the connection at its reset value (R25), in a link state and with given outputs. -/
def fresh (s : State) (l : LState) (outs : List OutEvent) : State :=
  { cfg := s.cfg, inbox := s.inbox, outs := outs, lstate := l, initResult := .none,
    ch := Vector.replicate 16 992, slots := ⟨none, none, none, none⟩, rxbuf := [],
    rxAge := s.cfg.linkTimeout + 1, txCnt := 0, connCnt := 0, cntTxframes := 0, cntTxerr := 0, cntRxvalid := 0,
    cntCrcerr := 0, cntLenerr := 0, cntOverflow := 0, cntIgnored := 0 }

/-- ConnReset of a well-formed configuration writes 992 to every register. -/
theorem connReset_eq_fresh {s : State} (hwf : s.cfg.wf = true) (l : LState) (outs : List OutEvent) :
    { s.connReset with lstate := l, initResult := .none, outs := outs } = fresh s l outs := by
  obtain ⟨-, -, -, hcentre, -⟩ := Cfg_wf_facts hwf
  rw [State.connReset, hcentre]
  rfl

theorem exec_reset {s : State} (hwf : s.cfg.wf = true) : exec .reset s = .next (fresh s .uninit []) :=
  congrArg Host.Outcome.next (connReset_eq_fresh hwf .uninit [])

theorem exec_init_fresh (port : List Byte) (baud : Word32) {s : State} (hwf : s.cfg.wf = true)
    (h : s.lstate = .uninit ∨ s.lstate = .closed) :
    exec (.init port baud) s = .next (fresh s .connecting [.openReq port baud]) :=
  (exec_init_idle port baud h).trans (congrArg Host.Outcome.next (connReset_eq_fresh hwf .connecting _))

/-- A store of 992s is not armed under a threshold of at least 992 (log entry 15). -/
theorem armed_fresh {s : State} (hwf : s.cfg.wf = true) (l : LState) (outs : List OutEvent)
    (hthreshold : 992 ≤ s.cfg.armThreshold) : (fresh s l outs).armed = false := by
  obtain ⟨-, -, -, -, harm, -⟩ := Cfg_wf_facts hwf
  have hread : (fresh s l outs).readCh s.cfg.armCh = 992 := by simp [State.readCh, fresh, harm]
  refine decide_eq_false (Nat.not_lt.2 ?_)
  exact hread.trans_le hthreshold

/-- Settles O1: RESET answers the fresh state in UNINIT. -/
theorem resetGivesThePostResetState : Obligations.ResetGivesThePostResetState := by
  intro s hwf
  refine ⟨exec_reset hwf, fun t ht => ?_⟩
  obtain rfl := next_unique ht (exec_reset hwf)
  exact ⟨isActive_of_not_active nofun, armed_fresh hwf _ _⟩

/-- Settles O3: the accepting arm of INIT answers the fresh state in CONNECTING, the other raises AlreadyInitialized. -/
theorem initOpensOrIsRejected : Obligations.InitOpensOrIsRejected := by
  intro port baud s hwf
  obtain ⟨-, halready, -⟩ := Cfg_wf_codes hwf
  refine ⟨fun hidle => ⟨exec_init_fresh port baud hwf hidle, fun t ht => ?_⟩, fun hbusy => ?_⟩
  · obtain rfl := next_unique ht (exec_init_fresh port baud hwf hidle)
    exact ⟨isActive_of_not_active nofun, armed_fresh hwf _ _⟩
  · rw [exec_init_busy port baud hbusy, halready]

/-! ## The step of the block (R4, R24) -/

/-- The instruction does to the state what the spec's Step does to its block, and leaves what stands outside it. -/
def StepsAsItsBlock (i : Instr) (s : State) : Prop :=
  exec i s = .next { (blockStep s.cfg s.toBlock i).1 with
    cfg := s.cfg, inbox := s.inbox, outs := (blockStep s.cfg s.toBlock i).2 }

/-- The block under its configuration, with nothing waiting and no outputs. -/
def alone (s : State) : State := s.toBlock.under s.cfg

/-- It is enough to know what the instruction answers of the state and of its block alone. -/
theorem stepsAsItsBlock_of_alone {i : Instr} {s u : State} (halone : exec i (alone s) = .next u)
    (hexec : exec i s = .next { u with cfg := s.cfg, inbox := s.inbox }) : StepsAsItsBlock i s := by
  have hstep : blockStep s.cfg s.toBlock i = (u.toBlock, u.outs) := by
    rw [alone] at halone
    rw [blockStep, halone]
  rw [StepsAsItsBlock, hexec, hstep]

theorem stepsAsItsBlock_setAll (vs : List Word32) {s : State} (hl : s.lstate = .active) :
    StepsAsItsBlock (.setAll vs) s := by
  by_cases hbad : vs.length ≠ s.cfg.nch ∨ vs.all s.cfg.valueOk = false
  case pos => exact stepsAsItsBlock_of_alone (exec_setAll_rejected (s := alone s) hl hbad) (exec_setAll_rejected hl hbad)
  case neg =>
    obtain ⟨hlen, hval⟩ := not_or.1 hbad
    exact stepsAsItsBlock_of_alone
      (exec_setAll_stored (s := alone s) hl (not_not.1 hlen) (eq_true_of_ne_false hval))
      (exec_setAll_stored hl (not_not.1 hlen) (eq_true_of_ne_false hval))

theorem stepsAsItsBlock_setOne (index value : Word32) {s : State} (hl : s.lstate = .active) :
    StepsAsItsBlock (.setOne index value) s := by
  by_cases hbad : s.cfg.indexOk index = false ∨ s.cfg.valueOk value = false
  case pos => exact stepsAsItsBlock_of_alone (exec_setOne_rejected (s := alone s) hl hbad) (exec_setOne_rejected hl hbad)
  case neg =>
    obtain ⟨hindex, hvalue⟩ := not_or.1 hbad
    exact stepsAsItsBlock_of_alone
      (exec_setOne_stored (s := alone s) hl (eq_true_of_ne_false hindex) (eq_true_of_ne_false hvalue))
      (exec_setOne_stored hl (eq_true_of_ne_false hindex) (eq_true_of_ne_false hvalue))

theorem stepsAsItsBlock_of_regSlot {i : Instr} {s : State} {k : Kind} {h : Option Token} (hl : s.lstate = .active)
    (hexec : ∀ s, exec i s = .next (s.begin.regSlot k h)) : StepsAsItsBlock i s := by
  have hset (u : State) (hu : u.lstate = .active) :
      exec i u = .next { u with slots := u.slots.set k h, outs := [.resp u.cfg.rcOk] } := by
    rw [hexec, regSlot_active hu]
  exact stepsAsItsBlock_of_alone (hset (alone s) hl) (hset s hl)

theorem stepsAsItsBlock_of_needsActive {i : Instr} (hi : needsActive i = true) (s : State) : StepsAsItsBlock i s := by
  by_cases hl : s.lstate = .active
  case neg => exact stepsAsItsBlock_of_alone (exec_needsActive_other (s := alone s) hi hl) (exec_needsActive_other hi hl)
  case pos =>
    cases i with
    | setAll vs => exact stepsAsItsBlock_setAll vs hl
    | setOne index value => exact stepsAsItsBlock_setOne index value hl
    | arm => exact stepsAsItsBlock_of_alone (exec_arm_active (s := alone s) hl) (exec_arm_active hl)
    | disarm => exact stepsAsItsBlock_of_alone (exec_disarm_active (s := alone s) hl) (exec_disarm_active hl)
    | regLinkstats _ _ | regBattery _ _ | regGps _ _ | regAttitude _ _ =>
      exact stepsAsItsBlock_of_regSlot hl fun _ => rfl
    | _ => cases hi

theorem stepsAsItsBlock_init (port : List Byte) (baud : Word32) (s : State) : StepsAsItsBlock (.init port baud) s := by
  have hidle (h : s.lstate = .uninit ∨ s.lstate = .closed) : StepsAsItsBlock (.init port baud) s :=
    stepsAsItsBlock_of_alone (exec_init_idle port baud (s := alone s) h) (exec_init_idle port baud h)
  have hbusy (h : s.lstate = .connecting ∨ s.lstate = .active) : StepsAsItsBlock (.init port baud) s :=
    stepsAsItsBlock_of_alone (exec_init_busy port baud (s := alone s) h) (exec_init_busy port baud h)
  cases hl : s.lstate with
  | uninit => exact hidle (.inl hl)
  | closed => exact hidle (.inr hl)
  | connecting => exact hbusy (.inl hl)
  | active => exact hbusy (.inr hl)

theorem stepsAsItsBlock_openResult (r : OpenResult) (s : State) : StepsAsItsBlock (.openResult r) s := by
  by_cases hl : s.lstate = .connecting
  case neg => exact stepsAsItsBlock_of_alone (exec_openResult_other r (s := alone s) hl) (exec_openResult_other r hl)
  case pos =>
    by_cases hr : r = .up
    · subst hr
      exact stepsAsItsBlock_of_alone (exec_openResult_up (s := alone s) hl) (exec_openResult_up hl)
    · exact stepsAsItsBlock_of_alone (exec_openResult_failed (s := alone s) hl hr) (exec_openResult_failed hl hr)

theorem stepsAsItsBlock_close (s : State) : StepsAsItsBlock .close s := by
  by_cases hl : s.lstate = .active
  · exact stepsAsItsBlock_of_alone (exec_close_active (s := alone s) hl) (exec_close_active hl)
  · exact stepsAsItsBlock_of_alone (exec_close_other (s := alone s) hl) (exec_close_other hl)

theorem stepsAsItsBlock_tick (wrOk : Bool) (s : State) : StepsAsItsBlock (.tick wrOk) s := by
  have hidle (h : s.lstate = .uninit ∨ s.lstate = .closed) : StepsAsItsBlock (.tick wrOk) s :=
    stepsAsItsBlock_of_alone (exec_tick_idle wrOk (s := alone s) h) (exec_tick_idle wrOk h)
  cases hl : s.lstate with
  | uninit => exact hidle (.inl hl)
  | closed => exact hidle (.inr hl)
  | connecting =>
    by_cases hlast : s.cfg.connectTimeout ≤ s.connCnt + 1
    · exact stepsAsItsBlock_of_alone (exec_tick_timeout wrOk (s := alone s) hl hlast) (exec_tick_timeout wrOk hl hlast)
    · exact stepsAsItsBlock_of_alone (exec_tick_waiting wrOk (s := alone s) hl (Nat.not_le.1 hlast))
        (exec_tick_waiting wrOk hl (Nat.not_le.1 hlast))
  | active =>
    by_cases hgate : s.txCnt = 0
    · exact stepsAsItsBlock_of_alone (exec_tick_sends wrOk (s := alone s) hl hgate) (exec_tick_sends wrOk hl hgate)
    · exact stepsAsItsBlock_of_alone (exec_tick_holds wrOk (s := alone s) hl hgate) (exec_tick_holds wrOk hl hgate)

/-- The parser reads neither the words that wait nor the outputs before its own. -/
theorem stepsAsItsBlock_of_receiveAll {i : Instr} {s : State} {bs : List Byte}
    (halone : exec i (alone s) = .next ((alone s).begin.receiveAll bs))
    (hexec : exec i s = .next (s.begin.receiveAll bs)) : StepsAsItsBlock i s := by
  have hbegin : s.begin = (alone s).begin.inEnv s.inbox [] := rfl
  obtain ⟨hcfg, -⟩ := StepEffects.execKeepsConfigAndInbox i _ _ halone
  refine stepsAsItsBlock_of_alone halone ?_
  rw [hexec, hbegin, State.receiveAll_inEnv, ← show _ = s.cfg from hcfg]
  rfl

/-- Settles O58: for each instruction the equation of its arm, of the state and of its block alone. -/
theorem execIsTheStepOfTheBlock : Obligations.ExecIsTheStepOfTheBlock := by
  intro i s
  cases i with
  | init port baud => exact stepsAsItsBlock_init port baud s
  | close => exact stepsAsItsBlock_close s
  | openResult r => exact stepsAsItsBlock_openResult r s
  | tick wrOk => exact stepsAsItsBlock_tick wrOk s
  | reset | isActive | illegal _ => exact stepsAsItsBlock_of_alone (s := s) rfl rfl
  | setAll _ | setOne _ _ | arm | disarm | regLinkstats _ _ | regBattery _ _ | regGps _ _ | regAttitude _ _ =>
    exact stepsAsItsBlock_of_needsActive rfl s
  | rxByte b => exact stepsAsItsBlock_of_receiveAll (bs := [b]) rfl rfl
  | frameRcChannels _ | frameGps _ _ _ _ _ _ _ | frameBattery _ _ _ _ _ | frameLinkstats _ _ _ _ _
  | frameAttitude _ _ _ _ | frameUnknown _ _ => exact stepsAsItsBlock_of_receiveAll (exec_frame rfl _) (exec_frame rfl s)

end Sys2Proof.Proofs.BlockStep
end

section
/-! PROOFS. Runs of instructions (R244): a frame row is the run of its bytes (R77), the connect timeout (R151), the activity window (R152) and the cadence of the outbound frames (R156, R157), each by induction over the run. -/

namespace Sys2Proof.Proofs.Runs

open Sys2Proof.Machine Sys2Proof.Proofs.Commands Sys2Proof.Proofs.TransmitScheduler
open Sys2Proof.Proofs.StepEffects Sys2Proof.Proofs.BlockStep

/-- A run takes its first step, and its outputs stand before those of the rest. -/
theorem runOps_cons_eq {i : Instr} {is : List Instr} {s t u : State} {outs : List OutEvent} (hexec : exec i s = .next t)
    (hrun : runOps is t = some (u, outs)) : runOps (i :: is) s = some (u, t.outs ++ outs) := by
  simp only [runOps, hexec, hrun, Option.map_some]

/-! ## FEED (R77) -/

/-- A fed sequence keeps the words that wait. -/
theorem receiveAll_inbox (s : State) (bs : List Byte) : (s.receiveAll bs).inbox = s.inbox := by
  rw [(s.receiveAll_frame bs).1]

/-- A fed sequence is that of the start of a step, behind the outputs there are. -/
theorem receiveAll_eq_inEnv (s : State) (bs : List Byte) :
    s.receiveAll bs = (s.begin.receiveAll bs).inEnv s.inbox s.outs := by
  have henv : s = s.begin.inEnv s.inbox s.outs := by
    rw [State.inEnv, State.begin_outs, List.append_nil]; rfl
  rw [← State.receiveAll_inEnv, ← henv]

/-- The run of one RX_BYTE per byte ends in the state of the fed sequence; only its outputs are those of the last byte, with
those of all bytes beside it. -/
theorem runOps_feedOps (bs : List Byte) (s : State) :
    ∃ t outs, runOps (feedOps bs) s = some (t, outs) ∧ s.begin.receiveAll bs = { t with outs := outs } := by
  induction bs generalizing s with
  | nil => exact ⟨s, [], rfl, rfl⟩
  | cons b bs ih =>
    obtain ⟨t, outs, hrun, hfed⟩ := ih (s.begin.receive b)
    have hexec : exec (.rxByte b) s = .next (s.begin.receive b) := rfl
    have hinbox : t.inbox = (s.begin.receive b).inbox := by
      have := receiveAll_inbox (s.begin.receive b).begin bs
      rwa [hfed] at this
    refine ⟨t, _, runOps_cons_eq hexec hrun, ?_⟩
    rw [State.receiveAll_cons, receiveAll_eq_inEnv, hfed, ← hinbox]
    rfl

/-- Settles O41: a frame row is its encoding fed at the start of a step. -/
theorem frameIsTheFeedOfItsBytes : Obligations.FrameIsTheFeedOfItsBytes := by
  intro i s hi
  obtain ⟨t, outs, hrun, hfed⟩ := runOps_feedOps (encode s.cfg i) s
  exact ⟨t, outs, hrun, by rw [exec_frame hi, hfed]⟩

/-! ## The connect timeout (R151) -/

/-- Ticks in CONNECTING: while the count stays below CONNECT_TIMEOUT the link waits, and the tick that reaches it closes. -/
theorem runOps_ticks_connecting (ws : List Bool) {s : State} (hl : s.lstate = .connecting)
    (hlt : s.connCnt < s.cfg.connectTimeout) (hle : s.connCnt + ws.length ≤ s.cfg.connectTimeout) :
    ∃ t outs, runOps (ws.map .tick) s = some (t, outs) ∧
      (s.connCnt + ws.length < s.cfg.connectTimeout →
        t.lstate = .connecting ∧ t.connCnt = s.connCnt + ws.length ∧ outs = []) ∧
      (s.connCnt + ws.length = s.cfg.connectTimeout → t.lstate = .closed ∧ t.initResult = .timeout ∧
        t.connCnt = s.cfg.connectTimeout ∧ outs = [.xportClose, .initDone s.cfg.rcLinkTimeout]) := by
  induction ws generalizing s with
  | nil => exact ⟨s, [], rfl, fun _ => ⟨hl, rfl, rfl⟩, fun h => absurd h hlt.ne⟩
  | cons w ws ih =>
    rw [List.length_cons] at hle ⊢
    by_cases hlast : s.cfg.connectTimeout ≤ s.connCnt + 1
    case pos =>
      obtain rfl : ws = [] := List.eq_nil_of_length_eq_zero (by omega)
      exact ⟨_, _, runOps_cons_eq (exec_tick_timeout w hl hlast) rfl, fun h => absurd h (by simpa using hlast),
        fun h => ⟨rfl, rfl, h, rfl⟩⟩
    case neg =>
      have hmore := Nat.not_le.1 hlast
      obtain ⟨t, outs, hrun, hwait, hclose⟩ :=
        ih (s := { s with connCnt := s.connCnt + 1, outs := [] }) hl hmore (by dsimp only; omega)
      refine ⟨t, outs, runOps_cons_eq (exec_tick_waiting w hl hmore) hrun, fun h => ?_, fun h => ?_⟩
      case refine_2 => exact hclose (by dsimp only; omega)
      obtain ⟨hconn, hcnt, houts⟩ := hwait (by dsimp only; omega)
      exact ⟨hconn, by rw [hcnt]; dsimp only; omega, houts⟩

/-- Settles O7: the accepted INIT starts the count at 0. -/
theorem connectTimeoutFiresAtTheLastTick : Obligations.ConnectTimeoutFiresAtTheLastTick := by
  intro port baud s ws hwf hidle hle
  obtain ⟨-, -, -, htimeout⟩ := Cfg_wf_codes hwf
  obtain ⟨t, outs, hrun, hwait, hclose⟩ := runOps_ticks_connecting ws
    (s := fresh s .connecting [.openReq port baud])
    rfl (LegalStates.connectTimeout_pos hwf) ((Nat.zero_add _).trans_le hle)
  refine ⟨t, _, runOps_cons_eq (exec_init_fresh port baud hwf hidle) hrun, fun h => ?_, fun h => ?_⟩
  · obtain ⟨hconn, hcnt, rfl⟩ := hwait ((Nat.zero_add _).trans_lt h)
    exact ⟨hconn, hcnt.trans (Nat.zero_add _), rfl⟩
  · obtain ⟨hclosed, hresult, hcnt, rfl⟩ := hclose ((Nat.zero_add _).trans h)
    refine ⟨hclosed, hresult, hcnt, ?_⟩
    rw [← htimeout]
    rfl

/-! ## The activity window (R152) -/

/-- Any tick in ACTIVE ages the link by one, saturating, and leaves it ACTIVE. -/
theorem exec_tick_ages (wrOk : Bool) {s : State} (hl : s.lstate = .active) :
    ∃ t, exec (.tick wrOk) s = .next t ∧ t.lstate = .active ∧ t.cfg = s.cfg ∧
      t.rxAge = min (s.rxAge + 1) (s.cfg.linkTimeout + 1) := by
  by_cases hgate : s.txCnt = 0
  · exact ⟨_, exec_tick_sends wrOk hl hgate, hl, rfl, rfl⟩
  · exact ⟨_, exec_tick_holds wrOk hl hgate, hl, rfl, rfl⟩

theorem runOps_ticks_active (ws : List Bool) {s : State} (hl : s.lstate = .active)
    (hage : s.rxAge ≤ s.cfg.linkTimeout + 1) :
    ∃ t outs, runOps (ws.map .tick) s = some (t, outs) ∧ t.lstate = .active ∧ t.cfg = s.cfg ∧
      t.rxAge = min (s.rxAge + ws.length) (s.cfg.linkTimeout + 1) := by
  induction ws generalizing s with
  | nil => exact ⟨s, [], rfl, hl, rfl, (Nat.min_eq_left hage).symm⟩
  | cons w ws ih =>
    obtain ⟨t, hexec, htl, htcfg, htage⟩ := exec_tick_ages w hl
    obtain ⟨u, outs, hrun, hul, hucfg, huage⟩ := ih htl (by rw [htage, htcfg]; exact Nat.min_le_right _ _)
    refine ⟨u, _, runOps_cons_eq hexec hrun, hul, hucfg.trans htcfg, ?_⟩
    rw [huage, htage, htcfg, List.length_cons]
    omega

/-- Settles O23: from RX_AGE = 0 the age is the number of ticks, as far as the window needs to tell. -/
theorem activityWindowIsExact : Obligations.ActivityWindowIsExact := by
  intro ws s hl hage
  obtain ⟨t, outs, hrun, htl, hcfg, htage⟩ := runOps_ticks_active ws hl (by omega)
  refine ⟨t, outs, hrun, htl, ?_⟩
  have hwindow : t.rxAge ≤ t.cfg.linkTimeout ↔ ws.length ≤ s.cfg.linkTimeout := by
    rw [htage, hcfg, hage]; omega
  rw [State.isActive, decide_eq_true htl, Bool.true_and, decide_eq_decide.2 hwindow]

/-! ## The cadence (R156, R157) -/

/-- What one instruction does to the rate gate: another than TICK leaves it, a TICK opens it or counts it down. -/
inductive GateStep (i : Instr) (s t : State) : Prop
  | other (hi : isTick i = false) (hcnt : t.txCnt = s.txCnt) (houts : countTx t.outs = 0)
  | sends (hi : isTick i = true) (hgate : s.txCnt = 0) (hcnt : t.txCnt = s.cfg.txPeriod - 1) (houts : countTx t.outs = 1)
  | holds (hi : isTick i = true) (hgate : s.txCnt ≠ 0) (hcnt : t.txCnt = s.txCnt - 1) (houts : countTx t.outs = 0)

theorem countTx_eq_zero {outs : List OutEvent} (h : ∀ e ∈ outs, isTxFrame e = false) : countTx outs = 0 :=
  List.countP_eq_zero.2 fun e he => by simp [h e he]

theorem countTx_append (xs ys : List OutEvent) : countTx (xs ++ ys) = countTx xs + countTx ys := List.countP_append

theorem countTicks_cons (i : Instr) (is : List Instr) :
    countTicks (i :: is) = countTicks is + if isTick i then 1 else 0 := List.countP_cons

theorem isTick_of_needsActive {i : Instr} (h : needsActive i = true) : isTick i = false := by
  cases i <;> first | rfl | cases h

theorem isTick_of_inbound {i : Instr} (h : IsInbound i) : isTick i = false := by
  rcases h with ⟨b, rfl⟩ | h
  · rfl
  · cases i <;> first | rfl | cases h

/-- In ACTIVE every instruction but RESET and CLOSE stays there. -/
theorem gateStep_of_exec {i : Instr} {s t : State} (hl : s.lstate = .active) (hreset : i ≠ .reset) (hclose : i ≠ .close)
    (hexec : exec i s = .next t) : t.lstate = .active ∧ GateStep i s t := by
  cases effect_of_exec hexec with
  | resets hi => exact absurd hi hreset
  | closes hi _ => exact absurd hi hclose
  | opens _ _ _ hother => exact absurd hl hother
  | linkUp _ hconn | linkFails _ _ hconn | waits _ _ hconn _ | timesOut _ _ hconn _ => rw [hl] at hconn; cases hconn
  | answers houts hidle =>
    have hnot : isTick i = false := by
      by_contra h
      exact hidle (eq_true_of_ne_false h) hl
    exact ⟨hl, .other hnot rfl (countTx_eq_zero fun e he => by cases houts e he <;> rfl)⟩
  | sends wrOk hi _ hgate => subst hi; exact ⟨hl, .sends rfl hgate rfl rfl⟩
  | holds wrOk hi _ hgate => subst hi; exact ⟨hl, .holds rfl hgate rfl rfl⟩
  | stores _ hi _ _ | registers _ hi _ => exact ⟨hl, .other (isTick_of_needsActive hi) rfl rfl⟩
  | receives bs hi =>
    have hframe := (s.begin.receiveAll_frame bs).1
    refine ⟨by rw [hframe]; exact hl, .other (isTick_of_inbound hi) (by rw [hframe]; rfl) (countTx_eq_zero fun e he => ?_)⟩
    obtain ⟨k, token, r, rfl, -⟩ := tlmFrom_of_mem_receiveAll he
    rfl

/-- The frames of n ticks from a gate that counts c, by the first tick: none while the gate counts down, and after the one it
opens for, those of a gate that counts from the top. -/
theorem ceil_step_open {p : Nat} (hp : 1 ≤ p) (n : Nat) :
    1 + (n - (p - 1) + p - 1) / p = (n + 1 - 0 + p - 1) / p := by
  have hadd : (n + 1 - 0 + p - 1) / p = n / p + 1 := by
    rw [show n + 1 - 0 + p - 1 = n + p by omega, Nat.add_div_right _ hp]
  rw [hadd, Nat.add_comm]
  congr 1
  by_cases h : p - 1 ≤ n
  · rw [show n - (p - 1) + p - 1 = n by omega]
  · rw [Nat.div_eq_of_lt (by omega), Nat.div_eq_of_lt (by omega)]

theorem txPeriod_pos {cfg : Cfg} (hwf : cfg.wf = true) : 1 ≤ cfg.txPeriod := by
  obtain ⟨-, -, -, -, -, -, -, -, -, -, -, -, -, hp, -⟩ := Cfg_wf_facts hwf
  exact hp

/-- From a gate that counts c, a run with n ticks emits (n - c) / TX_PERIOD frames, rounded up. -/
theorem runOps_cadence (is : List Instr) {s : State} (hp : 1 ≤ s.cfg.txPeriod) (hl : s.lstate = .active)
    (his : ∀ i ∈ is, i ≠ .reset ∧ i ≠ .close) :
    ∃ t outs, runOps is s = some (t, outs) ∧ t.lstate = .active ∧
      countTx outs = (countTicks is - s.txCnt + s.cfg.txPeriod - 1) / s.cfg.txPeriod := by
  induction is generalizing s with
  | nil =>
    refine ⟨s, [], rfl, hl, ?_⟩
    rw [Nat.div_eq_of_lt]
    · rfl
    · simp only [countTicks, List.countP_nil]; omega
  | cons i is ih =>
    obtain ⟨⟨hreset, hclose⟩, hrest⟩ := List.forall_mem_cons.1 his
    obtain ⟨t, hexec⟩ := exec_answers_next i s
    obtain ⟨hcfg, -⟩ := execKeepsConfigAndInbox i s t hexec
    obtain ⟨htl, hgate⟩ := gateStep_of_exec hl hreset hclose hexec
    obtain ⟨u, outs, hrun, hul, hcount⟩ := ih (by rwa [hcfg]) htl hrest
    refine ⟨u, _, runOps_cons_eq hexec hrun, hul, ?_⟩
    rw [countTx_append, hcount, hcfg, countTicks_cons]
    cases hgate with
    | other hi hcnt houts => rw [houts, hcnt, hi]; simp
    | sends hi h0 hcnt houts =>
      rw [houts, hcnt, hi, h0]
      exact ceil_step_open hp _
    | holds hi h0 hcnt houts =>
      rw [houts, hcnt, hi, Nat.zero_add]
      congr 2
      simp only [if_true]
      omega

/-- Settles O21: a gate that counts 0. -/
theorem cadenceIsExact : Obligations.CadenceIsExact := by
  intro is s hwf hl hgate his
  obtain ⟨t, outs, hrun, htl, hcount⟩ := runOps_cadence is (txPeriod_pos hwf) hl his
  exact ⟨t, outs, hrun, htl, by rw [hcount, hgate, Nat.sub_zero]⟩

/-- Settles O22: a legal gate counts less than TX_PERIOD, so TX_PERIOD ticks round up to one frame. -/
theorem linkIsNeverSilent : Obligations.LinkIsNeverSilent := by
  intro is s hwf hlegal hl his hticks
  have hp := txPeriod_pos hwf
  have hcnt : s.txCnt ≤ s.cfg.txPeriod - 1 := ((LegalStates.legal_iff hwf).1 hlegal).txCnt
  obtain ⟨t, outs, hrun, -, hcount⟩ := runOps_cadence is hp hl his
  refine ⟨t, outs, hrun, ?_⟩
  rw [hcount, hticks]
  exact Nat.div_eq_of_lt_le (by omega) (by omega)

end Sys2Proof.Proofs.Runs
end

section
/-! PROOFS. The codec: the algebra of the checksum (R90, R91), packing as the digits of one number in two bases (R92 to R94), and the frames of EncodeFrame (R96, R97). -/

namespace Sys2Proof.Proofs.Codec

open Sys2Proof.Machine Sys2Proof.Proofs.ReceiveParser Sys2Proof.Proofs.OutboundFrame

/-! ## The checksum -/

/-- One shift is linear over xor. -/
theorem crcShift_xor (poly a b : Byte) : crcShift poly (a ^^^ b) = crcShift poly a ^^^ crcShift poly b := by
  have hshift : (a ^^^ b) <<< 1 = a <<< 1 ^^^ b <<< 1 := BitVec.shiftLeft_xor_distrib a b 1
  have hcancel : a <<< 1 ^^^ b <<< 1 = (a <<< 1 ^^^ poly) ^^^ (b <<< 1 ^^^ poly) := by
    have : (a <<< 1 ^^^ poly) ^^^ (b <<< 1 ^^^ poly) = (a <<< 1 ^^^ b <<< 1) ^^^ (poly ^^^ poly) := by ac_rfl
    rw [this, BitVec.xor_self, BitVec.xor_zero]
  unfold crcShift
  rw [BitVec.msb_xor, hshift]
  cases a.msb <;> cases b.msb
  case false.false => rfl
  case false.true => exact BitVec.xor_assoc _ _ _
  case true.false => change _ = (a <<< 1 ^^^ poly) ^^^ b <<< 1; ac_rfl
  case true.true => exact hcancel

theorem crcShifts_xor (poly : Byte) (n : Nat) (a b : Byte) :
    crcShifts poly n (a ^^^ b) = crcShifts poly n a ^^^ crcShifts poly n b := by
  induction n generalizing a b with
  | zero => rfl
  | succ n ih => rw [crcShifts, crcShift_xor, ih]; rfl

theorem crc8Step_xor (poly c c' b b' : Byte) :
    crc8Step poly (c ^^^ c') (b ^^^ b') = crc8Step poly c b ^^^ crc8Step poly c' b' := by
  rw [crc8Step, crc8Step, crc8Step, ← crcShifts_xor]
  congr 1
  ac_rfl

/-- A byte equal to the register clears it. -/
theorem crc8Step_self (poly c : Byte) : crc8Step poly c c = 0 := by
  rw [crc8Step, BitVec.xor_self]
  exact crcShifts_zero poly 8

/-- The checksum from any start value is linear over xor. -/
theorem foldl_crc8Step_xor (poly : Byte) (a b : List Byte) (h : a.length = b.length) (c c' : Byte) :
    (List.zipWith (fun x y => x ^^^ y) a b).foldl (crc8Step poly) (c ^^^ c') =
      a.foldl (crc8Step poly) c ^^^ b.foldl (crc8Step poly) c' := by
  induction a generalizing b c c' with
  | nil => rw [List.length_eq_zero_iff.1 h.symm]; rfl
  | cons x a ih =>
    match b, h with
    | y :: b, h =>
      rw [List.zipWith_cons_cons, List.foldl_cons, crc8Step_xor, ih b (Nat.succ.inj h)]
      rfl

theorem crc8_append_checksum (cfg : Cfg) (s : List Byte) : crc8 cfg (s ++ [crc8 cfg s]) = 0 := by
  rw [crc8_append]
  exact crc8Step_self _ _

/-- Settles O43: a byte equal to the register clears it, zero keeps a zero register, and each step is linear. -/
theorem crcAlgebra : Obligations.CrcAlgebra := by
  refine fun cfg => ⟨crc8_append_checksum cfg, fun hinit => ⟨fun s => ?zero, fun a b hlen => ?linear⟩⟩
  case zero =>
    have hzero : crc8Step cfg.crcPoly cfg.crcInit 0 = cfg.crcInit := by rw [hinit]; exact crc8Step_self _ 0
    rw [crc8, List.foldl_cons, hzero, crc8]
  case linear =>
    have hsplit : cfg.crcInit = cfg.crcInit ^^^ cfg.crcInit := by rw [hinit]; rfl
    rw [crc8, hsplit]
    exact foldl_crc8Step_xor _ a b hlen _ _

/-- With constant term 1 a shift loses no bit: the one that leaves comes back as bit 0. -/
theorem eq_zero_of_crcShift {poly c : Byte} (hpoly : poly.getLsbD 0 = true) (h : crcShift poly c = 0) : c = 0 := by
  have hbit (i : Nat) : (crcShift poly c).getLsbD i = false := by rw [h]; exact BitVec.getLsbD_zero
  have hmsb : c.msb = false := by
    by_contra hne
    have h0 := hbit 0
    rw [crcShift, if_pos (eq_true_of_ne_false hne), BitVec.getLsbD_xor, hpoly] at h0
    simp at h0
  apply BitVec.eq_of_getLsbD_eq
  intro i hi
  rw [show (0 : Byte).getLsbD i = false from BitVec.getLsbD_zero]
  by_cases htop : i = 7
  · subst htop; exact hmsb
  · have := hbit (i + 1)
    rw [crcShift, if_neg (by simp [hmsb]), BitVec.getLsbD_shiftLeft] at this
    simpa [show i + 1 < 8 by omega] using this

theorem eq_zero_of_crcShifts {poly : Byte} (hpoly : poly.getLsbD 0 = true) (n : Nat) {c : Byte}
    (h : crcShifts poly n c = 0) : c = 0 := by
  induction n generalizing c with
  | zero => exact h
  | succ n ih => exact eq_zero_of_crcShift hpoly (ih h)

/-- Two steps agree only if register and byte differ by the same amount. -/
theorem xor_eq_of_crc8Step_eq {poly : Byte} (hpoly : poly.getLsbD 0 = true) {c c' b b' : Byte}
    (h : crc8Step poly c b = crc8Step poly c' b') : c ^^^ b = c' ^^^ b' := by
  have hzero : crcShifts poly 8 ((c ^^^ b) ^^^ (c' ^^^ b')) = 0 := by
    rw [crcShifts_xor]
    exact BitVec.xor_eq_zero_iff.2 h
  exact BitVec.xor_eq_zero_iff.1 (eq_zero_of_crcShifts hpoly 8 hzero)

/-- The checksum tells its start values apart. -/
theorem foldl_crc8Step_injective {poly : Byte} (hpoly : poly.getLsbD 0 = true) (s : List Byte) :
    Function.Injective (s.foldl (crc8Step poly)) := by
  induction s with
  | nil => exact fun _ _ h => h
  | cons b s ih =>
    intro c c' h
    have hstep : crc8Step poly c b = crc8Step poly c' b := ih h
    exact (BitVec.xor_left_inj _).1 (xor_eq_of_crc8Step_eq hpoly hstep)

/-- Settles O44: the changed byte changes the register behind it, and the rest of the sequence keeps the two apart. -/
theorem crcDetectsOneChangedByte : Obligations.CrcDetectsOneChangedByte := by
  intro cfg a c x y hpoly hne heq
  rw [crc8_append, crc8_append, List.foldl_cons, List.foldl_cons] at heq
  have hstep := foldl_crc8Step_injective hpoly c heq
  exact hne ((BitVec.xor_right_inj _).1 (xor_eq_of_crc8Step_eq hpoly hstep))

/-- Settles O42: the ten sequences, evaluated. -/
theorem crcCheckValues : Obligations.CrcCheckValues := by
  unfold Obligations.CrcCheckValues
  decide +kernel

/-! ## Packing: the fields of a number in base 2^bits (R92, R93) -/

theorem packAcc_cons (bits c : Nat) (cs : List Nat) : packAcc bits (c :: cs) = c + 2 ^ bits * packAcc bits cs := by
  rw [packAcc, Nat.shiftLeft_eq, Nat.mul_comm]

theorem fieldsOf_succ (bits n acc : Nat) :
    fieldsOf bits (n + 1) acc = acc % 2 ^ bits :: fieldsOf bits n (acc / 2 ^ bits) := by
  rw [fieldsOf, Nat.shiftRight_eq_div_pow]

theorem packAcc_lt {bits : Nat} {cs : List Nat} (h : ∀ c ∈ cs, c < 2 ^ bits) : packAcc bits cs < 2 ^ (bits * cs.length) := by
  induction cs with
  | nil => simp [packAcc]
  | cons c cs ih =>
    obtain ⟨hc, hcs⟩ := List.forall_mem_cons.1 h
    rw [packAcc_cons, List.length_cons, Nat.mul_succ, Nat.add_comm (bits * _), pow_add]
    calc c + 2 ^ bits * packAcc bits cs < 2 ^ bits * (packAcc bits cs + 1) := by rw [Nat.mul_succ]; omega
      _ ≤ 2 ^ bits * 2 ^ (bits * cs.length) := Nat.mul_le_mul_left _ (ih hcs)

theorem fieldsOf_packAcc {bits : Nat} {cs : List Nat} (h : ∀ c ∈ cs, c < 2 ^ bits) :
    fieldsOf bits cs.length (packAcc bits cs) = cs := by
  induction cs with
  | nil => rfl
  | cons c cs ih =>
    obtain ⟨hc, hcs⟩ := List.forall_mem_cons.1 h
    rw [packAcc_cons, List.length_cons, fieldsOf_succ, Nat.add_mul_mod_self_left, Nat.mod_eq_of_lt hc,
      Nat.add_mul_div_left _ _ (Nat.two_pow_pos bits), Nat.div_eq_of_lt hc, Nat.zero_add, ih hcs]

theorem packAcc_fieldsOf (bits n acc : Nat) : packAcc bits (fieldsOf bits n acc) = acc % 2 ^ (bits * n) := by
  induction n generalizing acc with
  | zero => rw [Nat.mul_zero, pow_zero, Nat.mod_one]; rfl
  | succ n ih => rw [fieldsOf_succ, packAcc_cons, ih, Nat.mul_succ, Nat.add_comm (bits * n), pow_add, Nat.mod_mul]

theorem lt_of_mem_fieldsOf {bits n acc c : Nat} (h : c ∈ fieldsOf bits n acc) : c < 2 ^ bits := by
  induction n generalizing acc with
  | zero => cases h
  | succ n ih =>
    rw [fieldsOf_succ] at h
    rcases List.mem_cons.1 h with rfl | hrest
    · exact Nat.mod_lt _ (Nat.two_pow_pos bits)
    · exact ih hrest

/-- Bit m of field k is bit bits * k + m of the number. -/
theorem testBit_fieldsOf {bits n k m : Nat} (acc : Nat) (hk : k < n) (hm : m < bits) :
    ((fieldsOf bits n acc).getD k 0).testBit m = acc.testBit (bits * k + m) := by
  induction n generalizing acc k with
  | zero => exact absurd hk (Nat.not_lt_zero k)
  | succ n ih =>
    rw [fieldsOf_succ]
    cases k with
    | zero =>
      rw [List.getD_cons_zero, Nat.testBit_mod_two_pow, decide_eq_true hm, Bool.true_and, Nat.mul_zero, Nat.zero_add]
    | succ k =>
      rw [List.getD_cons_succ, ih _ (Nat.lt_of_succ_lt_succ hk), Nat.testBit_div_two_pow]
      congr 1
      rw [Nat.mul_succ]
      omega

/-- Bytes are the fields of 8 bits. -/
theorem leBytes_eq (n acc : Nat) : leBytes n acc = (fieldsOf 8 n acc).map (BitVec.ofNat 8) := by
  induction n generalizing acc with
  | zero => rfl
  | succ n ih =>
    have hbyte : BitVec.ofNat 8 acc = BitVec.ofNat 8 (acc % 2 ^ 8) := by
      apply BitVec.eq_of_toNat_eq
      rw [BitVec.toNat_ofNat, BitVec.toNat_ofNat, Nat.mod_mod]
    rw [leBytes, fieldsOf, List.map_cons, ih, hbyte]

theorem unpackAcc_eq (d : List Byte) : unpackAcc d = packAcc 8 (d.map BitVec.toNat) := by
  induction d with
  | nil => rfl
  | cons b d ih => rw [unpackAcc, ih]; rfl

theorem toNat_leBytes (n acc : Nat) : (leBytes n acc).map BitVec.toNat = fieldsOf 8 n acc := by
  rw [leBytes_eq, List.map_map]
  refine (List.map_congr_left fun c hc => ?_).trans (List.map_id _)
  rw [Function.comp, BitVec.toNat_ofNat, Nat.mod_eq_of_lt (lt_of_mem_fieldsOf hc)]
  rfl

theorem lt_of_mem_toNat {d : List Byte} {c : Nat} (h : c ∈ d.map BitVec.toNat) : c < 2 ^ 8 := by
  obtain ⟨b, -, rfl⟩ := List.mem_map.1 h
  exact b.isLt

theorem unpackAcc_leBytes (n acc : Nat) : unpackAcc (leBytes n acc) = acc % 2 ^ (8 * n) := by
  rw [unpackAcc_eq, toNat_leBytes, packAcc_fieldsOf]

theorem leBytes_unpackAcc (d : List Byte) : leBytes d.length (unpackAcc d) = d := by
  have hlen : d.length = (d.map BitVec.toNat).length := (List.length_map _).symm
  have hinj : Function.Injective (List.map (BitVec.toNat (w := 8))) :=
    List.map_injective_iff.2 fun _ _ => BitVec.eq_of_toNat_eq
  apply hinj
  rw [toNat_leBytes, unpackAcc_eq, hlen, fieldsOf_packAcc fun _ => lt_of_mem_toNat]

theorem unpackAcc_lt (d : List Byte) : unpackAcc d < 2 ^ (8 * d.length) := by
  have := packAcc_lt (bits := 8) (cs := d.map BitVec.toNat) fun _ => lt_of_mem_toNat
  rwa [← unpackAcc_eq, List.length_map] at this

/-! ## The channels of a well-formed configuration -/

theorem packedLen_eq {cfg : Cfg} (hwf : cfg.wf = true) : cfg.packedLen = 2 * cfg.chBits := by
  obtain ⟨-, -, -, -, -, -, -, -, -, -, -, -, -, -, -, -, hlen, -⟩ := Cfg_wf_facts hwf
  exact hlen

/-- The packed bytes hold exactly the bits of the 16 channels. -/
theorem packed_bits {cfg : Cfg} (hwf : cfg.wf = true) : 8 * cfg.packedLen = cfg.chBits * 16 := by
  have := packedLen_eq hwf
  omega

theorem unpackChannels_packChannels {cfg : Cfg} (hwf : cfg.wf = true) {ch : List Nat} (hlen : ch.length = 16)
    (hch : ∀ c ∈ ch, c < 2 ^ cfg.chBits) : unpackChannels cfg (packChannels cfg ch) = ch := by
  obtain ⟨hnch, -⟩ := Cfg_wf_facts hwf
  have hfit : packAcc cfg.chBits ch < 2 ^ (8 * cfg.packedLen) := by
    rw [packed_bits hwf, ← hlen]
    exact packAcc_lt hch
  rw [unpackChannels, packChannels, unpackAcc_leBytes, Nat.mod_eq_of_lt hfit, hnch, ← hlen, fieldsOf_packAcc hch]

theorem packChannels_unpackChannels {cfg : Cfg} (hwf : cfg.wf = true) {d : List Byte} (hlen : d.length = cfg.packedLen) :
    packChannels cfg (unpackChannels cfg d) = d := by
  obtain ⟨hnch, -⟩ := Cfg_wf_facts hwf
  have hfit : unpackAcc d < 2 ^ (cfg.chBits * 16) := by
    rw [← packed_bits hwf, ← hlen]
    exact unpackAcc_lt d
  rw [packChannels, unpackChannels, hnch, packAcc_fieldsOf, Nat.mod_eq_of_lt hfit, ← hlen, leBytes_unpackAcc]

/-- Settles O45: the fields of a number and the number of its fields are inverse, for 16 fields of CH_BITS bits and for the bytes,
which hold as many bits. -/
theorem channelPackingRoundTrips : Obligations.ChannelPackingRoundTrips := by
  refine fun cfg hwf => ⟨fun ch hlen hch => ?unpack, fun d hlen => ?pack, fun ch hlen hch => ?frame⟩
  case unpack => exact unpackChannels_packChannels hwf hlen hch
  case pack =>
    obtain ⟨hnch, -⟩ := Cfg_wf_facts hwf
    refine ⟨packChannels_unpackChannels hwf hlen, ?_, fun c hc => lt_of_mem_fieldsOf hc⟩
    rw [unpackChannels, fieldsOf_length, hnch]
  case frame =>
    exact ⟨packChannels cfg ch, _, encodeRcFrame_eq cfg ch, packChannels_length cfg ch, rfl,
      unpackChannels_packChannels hwf hlen hch⟩

/-- Settles O46: byte and channel are fields of the same number. -/
theorem packedBitsStandInOrder : Obligations.PackedBitsStandInOrder := by
  intro cfg ch i j hwf hlen hch hi hj
  refine ⟨(packChannels_length cfg ch).trans (packedLen_eq hwf), ?_⟩
  have hbyte : (cfg.chBits * i + j) / 8 < cfg.packedLen := by
    have hbits := packed_bits hwf
    have hpos : cfg.chBits * i + j < cfg.chBits * 16 := calc
      cfg.chBits * i + j < cfg.chBits * (i + 1) := by rw [Nat.mul_succ]; omega
      _ ≤ cfg.chBits * 16 := Nat.mul_le_mul_left _ hi
    omega
  have hbit : (cfg.chBits * i + j) % 8 < 8 := Nat.mod_lt _ (by decide)
  have hleft : ((packChannels cfg ch).getD ((cfg.chBits * i + j) / 8) 0).getLsbD ((cfg.chBits * i + j) % 8) =
      (packAcc cfg.chBits ch).testBit (cfg.chBits * i + j) := by
    rw [packChannels, leBytes_eq, show (0 : Byte) = BitVec.ofNat 8 0 from rfl, List.getD_map, BitVec.getLsbD_ofNat,
      decide_eq_true hbit, Bool.true_and, testBit_fieldsOf _ hbyte hbit, Nat.div_add_mod]
  have hright : (ch.getD i 0).testBit j = (packAcc cfg.chBits ch).testBit (cfg.chBits * i + j) := by
    rw [← testBit_fieldsOf _ hi hj, ← hlen, fieldsOf_packAcc hch]
  rw [hleft, hright]

/-! ## EncodeFrame (R96, R97) -/

/-- An inbound frame is sync byte, length byte, and the body with its checksum. -/
theorem inboundFrame_eq (cfg : Cfg) (ty : Byte) (data : List Byte) :
    inboundFrame cfg ty data = cfg.rxSync :: BitVec.ofNat 8 (data.length + 2) :: ((ty :: data) ++ [crc8 cfg (ty :: data)]) :=
  rfl

theorem frameLenOk_iff (cfg : Cfg) (n : Nat) : cfg.frameLenOk n = true ↔ cfg.lenMin ≤ n + 2 ∧ n + 2 ≤ cfg.lenMax := by
  rw [Cfg.frameLenOk, decide_eq_true_eq]

/-- The length byte of a frame of legal length holds it whole. -/
theorem toNat_lengthByte {cfg : Cfg} (hwf : cfg.wf = true) {n : Nat} (h : cfg.frameLenOk n = true) :
    (BitVec.ofNat 8 (n + 2)).toNat = n + 2 := by
  obtain ⟨-, -, -, -, -, -, -, -, -, -, -, hmax, -⟩ := Cfg_wf_facts hwf
  have := (frameLenOk_iff cfg n).1 h
  exact toNat_ofNat_byte (by omega)

theorem frameAt_inboundFrame {cfg : Cfg} (hwf : cfg.wf = true) (ty : Byte) {data : List Byte} (tail : List Byte)
    (h : cfg.frameLenOk data.length = true) :
    frameAt cfg (inboundFrame cfg ty data ++ tail) = .valid (data.length + 2) := by
  have hlen := toNat_lengthByte hwf h
  have hlegal := (frameLenOk_iff cfg data.length).1 h
  rw [inboundFrame_eq, List.cons_append, List.cons_append, frameAt_eq_valid_iff, hlen]
  refine ⟨rfl, hlegal, by simp, ?_, rfl⟩
  have hbody : (ty :: data).length = data.length + 2 - 1 := rfl
  rw [← hbody, List.append_assoc, List.take_left, List.getD_append_right _ _ _ _ (Nat.le_refl _), Nat.sub_self]
  rfl

/-- Settles O29: the tests of FrameAt on the bytes of EncodeFrame. -/
theorem encodedFrameIsValid : Obligations.EncodedFrameIsValid := by
  refine fun cfg ty data tail hwf => ⟨frameAt_inboundFrame hwf ty tail, fun hbad hshort => ?_⟩
  have hlen : (BitVec.ofNat 8 (data.length + 2)).toNat = data.length + 2 := toNat_ofNat_byte (by omega)
  have hillegal := mt (frameLenOk_iff cfg data.length).2 (Bool.not_eq_true _ ▸ hbad)
  refine frameAt_of_illegal_length _ ?_
  rw [hlen]
  omega

end Sys2Proof.Proofs.Codec
end

section
/-! PROOFS. The arrival of a whole frame: fed into an empty buffer it waits until its last byte and is then accepted (R185), or dropped whole if one byte of its body changed; what each frame row delivers (R69 to R73), and that a frame is decoded from its bytes. -/

namespace Sys2Proof.Proofs.FrameArrival

open Sys2Proof.Machine Sys2Proof.Proofs.ReceiveParser Sys2Proof.Proofs.Codec

/-! ## Feeding one candidate frame -/

/-- The bytes are one candidate frame: a sync byte, a legal length byte, and as many bytes as it says. -/
structure IsCandidate (cfg : Cfg) (f : List Byte) (l : Byte) (body : List Byte) : Prop where
  bytes : f = cfg.rxSync :: l :: body
  legal : ¬(l.toNat < cfg.lenMin ∨ cfg.lenMax < l.toNat)
  whole : body.length = l.toNat

theorem IsCandidate.length {cfg : Cfg} {f : List Byte} {l : Byte} {body : List Byte} (h : IsCandidate cfg f l body) :
    f.length = l.toNat + 2 := by
  rw [h.bytes, List.length_cons, List.length_cons, h.whole]

/-- A proper part of a candidate has the parser wait (R97). -/
theorem IsCandidate.frameAt_take {cfg : Cfg} {f : List Byte} {l : Byte} {body : List Byte} (h : IsCandidate cfg f l body)
    {n : Nat} (hn : n < f.length) : frameAt cfg (f.take n) = .needMore := by
  have hlen := h.length
  rw [h.bytes]
  match n with
  | 0 => rfl
  | 1 => exact if_neg (not_not.2 rfl)
  | n + 2 =>
    refine frameAt_of_partial h.legal ?_
    rw [List.length_take]
    omega

/-- In a buffer that has room, feeding a byte is appending it and draining. -/
theorem receive_of_room {s : State} (hl : s.lstate = .active) (b : Byte) (h : s.rxbuf.length < s.cfg.rxBufMax) :
    s.receive b = State.drain { s with rxbuf := s.rxbuf ++ [b] } := by
  rw [State.receive_active hl, feed_of_room b h]
  rfl

/-- One more byte behind the first n of a sequence that are waiting. -/
theorem receiveAll_take_succ {s : State} (hl : s.lstate = .active) {f : List Byte} (hcap : f.length ≤ s.cfg.rxBufMax)
    {n : Nat} (hn : n < f.length) (hwait : s.receiveAll (f.take n) = { s with rxbuf := f.take n }) :
    s.receiveAll (f.take (n + 1)) = State.drain { s with rxbuf := f.take (n + 1) } := by
  have hroom : (f.take n).length < s.cfg.rxBufMax := by rw [List.length_take]; omega
  rw [← List.take_append_getElem hn, State.receiveAll_append, hwait]
  exact receive_of_room (s := { s with rxbuf := f.take n }) hl f[n] hroom

/-- Before its last byte a candidate fed into an empty buffer sits there, and nothing else has changed. -/
theorem IsCandidate.receiveAll_take {s : State} {f : List Byte} {l : Byte} {body : List Byte}
    (h : IsCandidate s.cfg f l body) (hl : s.lstate = .active) (hempty : s.rxbuf = []) (hcap : f.length ≤ s.cfg.rxBufMax)
    {n : Nat} (hn : n < f.length) : s.receiveAll (f.take n) = { s with rxbuf := f.take n } := by
  induction n with
  | zero => rw [List.take_zero, State.receiveAll_nil, ← hempty]
  | succ n ih =>
    rw [receiveAll_take_succ hl hcap (Nat.lt_of_succ_lt hn) (ih (Nat.lt_of_succ_lt hn))]
    exact drain_of_needMore (s := { s with rxbuf := f.take (n + 1) }) (h.frameAt_take hn)

/-- With its last byte the loop runs on the whole candidate. -/
theorem IsCandidate.receiveAll {s : State} {f : List Byte} {l : Byte} {body : List Byte}
    (h : IsCandidate s.cfg f l body) (hl : s.lstate = .active) (hempty : s.rxbuf = [])
    (hcap : f.length ≤ s.cfg.rxBufMax) : s.receiveAll f = State.drain { s with rxbuf := f } := by
  have hlen := h.length
  have hlast := receiveAll_take_succ hl hcap (n := l.toNat + 1) (by omega)
    (h.receiveAll_take hl hempty hcap (by omega))
  rwa [List.take_of_length_le (by omega)] at hlast

/-! ## A valid frame -/

theorem isCandidate_inboundFrame {cfg : Cfg} (hwf : cfg.wf = true) (ty : Byte) {data : List Byte}
    (h : cfg.frameLenOk data.length = true) : IsCandidate cfg (inboundFrame cfg ty data)
      (BitVec.ofNat 8 (data.length + 2)) ((ty :: data) ++ [crc8 cfg (ty :: data)]) := by
  have hlegal := (frameLenOk_iff cfg data.length).1 h
  have hlen := toNat_lengthByte hwf h
  exact ⟨rfl, by rw [hlen]; omega, by rw [hlen]; simp⟩

/-- A valid frame alone in the buffer is consumed and delivered. -/
theorem drain_inboundFrame {s : State} (hwf : s.cfg.wf = true) {ty : Byte} {data : List Byte}
    (hbuf : s.rxbuf = inboundFrame s.cfg ty data) (h : s.cfg.frameLenOk data.length = true) :
    s.drain = State.deliver { s with
      rxbuf := [], rxAge := 0, cntRxvalid := satInc s.cfg.cntBits s.cntRxvalid } ty data := by
  have hvalid : frameAt s.cfg s.rxbuf = .valid (data.length + 2) := by
    rw [hbuf, ← List.append_nil (inboundFrame _ _ _)]
    exact frameAt_inboundFrame hwf ty [] h
  have hframe : s.rxbuf = s.cfg.rxSync :: BitVec.ofNat 8 (data.length + 2) :: ty :: (data ++ crc8 s.cfg (ty :: data) :: []) := by
    rw [hbuf]; rfl
  rw [drain_of_valid hvalid, accept_of_frame (Nat.le_add_left 2 _) rfl hframe]
  refine drain_of_needMore ?_
  rw [State.deliver_rxbuf]
  rfl

theorem receiveAll_inboundFrame {s : State} (hwf : s.cfg.wf = true) (hl : s.lstate = .active) (hempty : s.rxbuf = [])
    (ty : Byte) {data : List Byte} (h : s.cfg.frameLenOk data.length = true) (hcap : data.length + 4 ≤ s.cfg.rxBufMax) :
    s.receiveAll (inboundFrame s.cfg ty data) =
      State.deliver { s with rxAge := 0, cntRxvalid := satInc s.cfg.cntBits s.cntRxvalid } ty data := by
  have hfit : (inboundFrame s.cfg ty data).length ≤ s.cfg.rxBufMax := (encodeFrame_length _ _ _ _).trans_le hcap
  rw [(isCandidate_inboundFrame hwf ty h).receiveAll hl hempty hfit,
    drain_inboundFrame (s := { s with rxbuf := inboundFrame s.cfg ty data }) hwf rfl h]
  rw [hempty]

/-- Settles O30: a valid frame is a candidate whose checksum agrees. -/
theorem frameFromEmptyBufferIsAccepted : Obligations.FrameFromEmptyBufferIsAccepted := by
  intro s ty data hwf hl hempty h hcap
  have hlen : (inboundFrame s.cfg ty data).length = data.length + 4 := encodeFrame_length _ _ _ _
  refine ⟨receiveAll_inboundFrame hwf hl hempty ty h hcap, fun n hn => ?_⟩
  exact (isCandidate_inboundFrame hwf ty h).receiveAll_take hl hempty (hlen.trans_le hcap) (hn.trans_eq hlen.symm)

/-! ## A frame with one byte changed -/

/-- Bytes without a sync byte among them are dropped one by one. -/
theorem drain_of_no_sync {s : State} (h : ∀ b ∈ s.rxbuf, b ≠ s.cfg.rxSync) : s.drain = { s with rxbuf := [] } := by
  generalize hbuf : s.rxbuf = buf at h
  induction buf generalizing s with
  | nil =>
    rw [drain_of_needMore (by rw [hbuf]; rfl), ← hbuf]
  | cons b buf ih =>
    obtain ⟨hb, hrest⟩ := List.forall_mem_cons.1 h
    have hdrop : (s.rxDrop 1).rxbuf = buf := by rw [State.rxDrop_rxbuf, hbuf]; rfl
    rw [drain_of_badSync (by rw [hbuf]; exact frameAt_of_no_sync buf hb), ih hdrop hrest]
    rfl

/-- The checksum of a body with its checksum byte is 0 exactly when that byte agrees with the rest. -/
theorem crc8_eq_zero_of_checked {cfg : Cfg} {body : List Byte} {n : Nat} (hlen : body.length = n + 1)
    (h : crc8 cfg (body.take n) = body.getD n 0) : crc8 cfg body = 0 := by
  have hn : n < body.length := by omega
  have hbody : body = body.take n ++ [crc8 cfg (body.take n)] := by
    rw [h, List.getD_eq_getElem body 0 hn, List.take_append_getElem hn, List.take_of_length_le (by omega)]
  rw [hbody]
  exact crc8_append_checksum cfg _

/-- A candidate with a wrong checksum and no other sync byte is dropped whole, with one CNT_CRCERR. -/
theorem IsCandidate.drain_corrupted {s : State} {f : List Byte} {l : Byte} {body : List Byte}
    (h : IsCandidate s.cfg f l body) (hbuf : s.rxbuf = f) (hpos : 1 ≤ l.toNat) (hcrc : crc8 s.cfg body ≠ 0)
    (hsync : ∀ b ∈ f.tail, b ≠ s.cfg.rxSync) :
    s.drain = { s with rxbuf := [], cntCrcerr := satInc s.cfg.cntBits s.cntCrcerr } := by
  have hbad : frameAt s.cfg s.rxbuf = .badCrc := by
    rw [hbuf, h.bytes]
    refine frameAt_of_bad_checksum h.legal h.whole.ge fun heq => hcrc (crc8_eq_zero_of_checked ?_ heq)
    rw [h.whole]
    omega
  rw [drain_of_badCrc hbad]
  refine drain_of_no_sync ?_
  rw [← List.drop_one, ← hbuf] at hsync
  exact hsync

/-- Changing a byte behind the length byte leaves a candidate, with that byte of its body changed. -/
theorem IsCandidate.exists_changed {cfg : Cfg} {a c : List Byte} {x l : Byte} {body : List Byte}
    (h : IsCandidate cfg (a ++ x :: c) l body) (ha : 2 ≤ a.length) (y : Byte) :
    ∃ a', body = a' ++ x :: c ∧ IsCandidate cfg (a ++ y :: c) l (a' ++ y :: c) := by
  match a, ha with
  | s0 :: l' :: a', _ =>
    obtain ⟨hbytes, hlegal, hwhole⟩ := h
    simp only [List.cons_append, List.cons.injEq] at hbytes
    obtain ⟨rfl, rfl, rfl⟩ := hbytes
    refine ⟨a', rfl, rfl, hlegal, ?_⟩
    rw [← hwhole, List.length_append, List.length_append, List.length_cons, List.length_cons]

/-- Settles O31: the changed body no longer has checksum 0, so the whole is dropped and leaves the buffer empty for the next
frame. -/
theorem corruptedFrameCostsOnlyItself : Obligations.CorruptedFrameCostsOnlyItself := by
  intro s ty ty' x y data data' a c hwf hpoly hl hempty hlen hcap hlen' hcap' hframe ha hne hsync
  have hcand := isCandidate_inboundFrame hwf ty hlen
  rw [hframe] at hcand
  obtain ⟨a', hbody, hcorrupt⟩ := hcand.exists_changed ha y
  have hzero : crc8 s.cfg (a' ++ x :: c) = 0 := by rw [← hbody]; exact crc8_append_checksum _ _
  have hcrc : crc8 s.cfg (a' ++ y :: c) ≠ 0 := by
    rw [← hzero]
    exact crcDetectsOneChangedByte s.cfg a' c y x hpoly hne
  have hlength := toNat_lengthByte hwf hlen
  have hfit : (a ++ y :: c).length ≤ s.cfg.rxBufMax := by rw [hcorrupt.length, hlength]; exact hcap
  have hdropped : s.receiveAll (a ++ y :: c) =
      { s with rxbuf := [], cntCrcerr := satInc s.cfg.cntBits s.cntCrcerr } := by
    rw [hcorrupt.receiveAll hl hempty hfit]
    exact IsCandidate.drain_corrupted (s := { s with rxbuf := a ++ y :: c }) hcorrupt rfl (by omega) hcrc hsync
  rw [State.receiveAll_append, hdropped]
  refine (receiveAll_inboundFrame (s := { s with rxbuf := [], cntCrcerr := satInc s.cfg.cntBits s.cntCrcerr })
    hwf hl rfl ty' hlen' hcap').trans ?_
  rw [hempty]
  rfl

end Sys2Proof.Proofs.FrameArrival
end

section
/-! PROOFS. The operation words (R61, R74): each parser reads exactly the operand bytes its encoder writes, the host words that are commands, and the event words that are listed. -/

namespace Sys2Proof.Proofs.OperationWords

open Sys2Proof.Machine

/-! ## Operand bytes -/

@[simp] theorem boolOf_boolByte (b : Bool) : boolOf (boolByte b) = some b := by
  cases b <;> rfl

/-- A byte read as a Bool is that Bool's byte. -/
theorem boolOf_eq_some {x : Byte} {b : Bool} (h : boolOf x = some b) : x = boolByte b := by
  unfold boolOf at h
  split_ifs at h with h0 h1 <;> cases h
  · exact h0
  · exact h1

@[simp] theorem ofByte_byte (r : OpenResult) : OpenResult.ofByte r.byte = some r := by
  cases r <;> rfl

theorem ofByte_eq_some {x : Byte} {r : OpenResult} (h : OpenResult.ofByte x = some r) : x = r.byte := by
  unfold OpenResult.ofByte at h
  split_ifs at h with h0 h1 h2 <;> cases h
  · exact h0
  · exact h1
  · exact h2

/-! ## The parsers: what each reads of the bytes its encoder writes, and what it wrote them from -/

theorem parseInit_iff {args : List Byte} {i : Instr} :
    parseInit args = some i ↔
      ∃ port baud, i = .init port baud ∧ port.length ≤ 255 ∧
        args = BitVec.ofNat 8 port.length :: (port ++ bytes32 baud) := by
  constructor
  · intro h
    match args with
    | n :: t =>
      obtain ⟨baud, hbaud, hinit⟩ := Option.bind_eq_some_iff.1 h
      split_ifs at hinit with hlen
      have hn := n.isLt
      have hport : (t.take n.toNat).length = n.toNat := by rw [List.length_take]; omega
      refine ⟨t.take n.toNat, baud, (Option.some.inj hinit).symm, by omega, ?_⟩
      rw [hport, BitVec.ofNat_toNat, BitVec.setWidth_eq, ← be32?_eq_some hbaud, List.take_append_drop]
  · rintro ⟨port, baud, rfl, hport, rfl⟩
    have hn := toNat_ofNat_byte hport
    simp only [parseInit, hn, List.drop_left, List.take_left, be32?_bytes, Option.bind_some, List.length_append,
      bytes32_length, if_true]

theorem parseSetAll_iff {args : List Byte} {i : Instr} :
    parseSetAll args = some i ↔
      ∃ vs, i = .setAll vs ∧ vs.length ≤ 255 ∧ args = BitVec.ofNat 8 vs.length :: vs.flatMap bytes32 := by
  constructor
  · intro h
    match args with
    | m :: t =>
      rw [parseSetAll] at h
      split_ifs at h with hlen
      obtain ⟨hbytes, hcount⟩ := flatMap_wordsBE m.toNat t hlen
      have hm := m.isLt
      refine ⟨wordsBE t, (Option.some.inj h).symm, by omega, ?_⟩
      rw [hcount, BitVec.ofNat_toNat, BitVec.setWidth_eq, hbytes]
  · rintro ⟨vs, rfl, hcount, rfl⟩
    have hm := toNat_ofNat_byte hcount
    simp only [parseSetAll, hm, flatMap_bytes32_length, wordsBE_flatMap, if_true]

theorem parseSetOne_iff {args : List Byte} {i : Instr} :
    parseSetOne args = some i ↔ ∃ index value, i = .setOne index value ∧ args = bytes32 index ++ bytes32 value := by
  constructor
  · intro h
    unfold parseSetOne at h
    split at h
    · rename_i a b c d e f g k
      refine ⟨be32 a b c d, be32 e f g k, (Option.some.inj h).symm, ?_⟩
      rw [bytes32_be, bytes32_be]
      rfl
    · cases h
  · rintro ⟨index, value, rfl, rfl⟩
    simp [parseSetOne, bytes32]

theorem parseReg_iff {mk : Bool → Token → Instr} {args : List Byte} {i : Instr} :
    parseReg mk args = some i ↔ ∃ present token, i = mk present token ∧ args = regArgs present token := by
  constructor
  · intro h
    unfold parseReg at h
    split at h
    · rename_i p a b c d
      obtain ⟨present, hp, rfl⟩ := Option.map_eq_some_iff.1 h
      refine ⟨present, be32 a b c d, rfl, ?_⟩
      rw [regArgs, bytes32_be, boolOf_eq_some hp]
    · cases h
  · rintro ⟨present, token, rfl, rfl⟩
    simp [parseReg, regArgs, bytes32]

theorem parseNone_iff {j : Instr} {args : List Byte} {i : Instr} : parseNone j args = some i ↔ i = j ∧ args = [] := by
  rw [parseNone]
  split_ifs with h
  · rw [List.isEmpty_iff] at h
    simp [h, eq_comm]
  · rw [List.isEmpty_iff] at h
    simp [h]

theorem parseOperand_eq_ok {op : Byte} {args : List Byte} {read : Byte → Option Instr} {i : Instr}
    (h : parseOperand op args read = .ok i) : ∃ b, args = [b] ∧ read b = some i := by
  unfold parseOperand at h
  split at h
  · rename_i b
    split at h
    · rename_i j hj
      exact ⟨b, rfl, hj.trans (congrArg some (Except.ok.inj h))⟩
    · cases h
  · cases h

/-! ## Host words and event words -/

theorem decodeWord_host {op : Byte} {args : List Byte} {i : Instr} (hop : op.msb = false)
    (h : parseHost op args = some i) : decodeWord (op :: args) = .ok i := by
  simp [decodeWord, hop, h]

theorem decodeWord_illegal {op : Byte} {args : List Byte} (hop : op.msb = false) (h : parseHost op args = none) :
    decodeWord (op :: args) = .ok (.illegal (op :: args)) := by
  simp [decodeWord, hop, h]

theorem decodeWord_event {op : Byte} (args : List Byte) (hop : op.msb = true) :
    decodeWord (op :: args) = parseEvent op args := by
  simp [decodeWord, hop]

/-- The word is the encoding of the instruction, which is a well-formed command. -/
structure Encodes (cfg : Cfg) (w : OpWord) (i : Instr) : Prop where
  word : encode cfg i = w
  wf : i.wf cfg = true
  operation : i.isOperation = true
  command : ∀ w, i ≠ .illegal w

theorem encodes_of_parseNone {cfg : Cfg} {op op' : Byte} {args : List Byte} {i j : Instr} (h : parseNone j args = some i)
    (hj : Encodes cfg [op'] j) (hop : op.toNat = op'.toNat) : Encodes cfg (op :: args) i := by
  obtain ⟨rfl, rfl⟩ := parseNone_iff.1 h
  obtain rfl := BitVec.eq_of_toNat_eq hop
  exact hj

theorem encodes_of_parseReg {cfg : Cfg} {op op' : Byte} {args : List Byte} {mk : Bool → Token → Instr} {i : Instr}
    (h : parseReg mk args = some i) (hmk : ∀ present token, Encodes cfg (op' :: regArgs present token) (mk present token))
    (hop : op.toNat = op'.toNat) : Encodes cfg (op :: args) i := by
  obtain ⟨present, token, rfl, rfl⟩ := parseReg_iff.1 h
  obtain rfl := BitVec.eq_of_toNat_eq hop
  exact hmk present token

/-- One case per opcode of a host command. -/
theorem encodes_of_parseHost (cfg : Cfg) {op : Byte} {args : List Byte} {i : Instr} (h : parseHost op args = some i) :
    Encodes cfg (op :: args) i := by
  unfold parseHost at h
  split at h
  case h_1 hop =>
    obtain rfl : op = 0x01 := BitVec.eq_of_toNat_eq hop
    obtain ⟨port, baud, rfl, hport, rfl⟩ := parseInit_iff.1 h
    exact ⟨rfl, decide_eq_true hport, rfl, nofun⟩
  case h_3 hop =>
    obtain rfl : op = 0x03 := BitVec.eq_of_toNat_eq hop
    obtain ⟨vs, rfl, hcount, rfl⟩ := parseSetAll_iff.1 h
    exact ⟨rfl, decide_eq_true hcount, rfl, nofun⟩
  case h_4 hop =>
    obtain rfl : op = 0x04 := BitVec.eq_of_toNat_eq hop
    obtain ⟨index, value, rfl, rfl⟩ := parseSetOne_iff.1 h
    exact ⟨rfl, rfl, rfl, nofun⟩
  case h_2 hop | h_5 hop | h_6 hop | h_7 hop => exact encodes_of_parseNone h ⟨rfl, rfl, rfl, nofun⟩ hop
  case h_8 hop | h_9 hop | h_10 hop | h_11 hop =>
    exact encodes_of_parseReg h (fun _ _ => ⟨rfl, rfl, rfl, nofun⟩) hop
  case h_12 => cases h

/-- The event words of R61. -/
inductive IsEventOf : OpWord → Instr → Prop
  | reset : IsEventOf [0x80] .reset
  | openResult (r : OpenResult) : IsEventOf [0x81, r.byte] (.openResult r)
  | tick (wrOk : Bool) : IsEventOf [0x82, boolByte wrOk] (.tick wrOk)
  | rxByte (b : Byte) : IsEventOf [0x83, b] (.rxByte b)

/-- One case per event opcode. -/
theorem isEventOf_of_parseEvent {op : Byte} {args : List Byte} {i : Instr} (h : parseEvent op args = .ok i) :
    IsEventOf (op :: args) i := by
  unfold parseEvent at h
  split at h
  case h_1 hop =>
    obtain rfl : op = 0x80 := BitVec.eq_of_toNat_eq hop
    split_ifs at h with hempty
    rw [List.isEmpty_iff.1 hempty, ← Except.ok.inj h]
    exact .reset
  case h_2 hop =>
    obtain rfl : op = 0x81 := BitVec.eq_of_toNat_eq hop
    obtain ⟨b, rfl, hread⟩ := parseOperand_eq_ok h
    obtain ⟨r, hr, rfl⟩ := Option.map_eq_some_iff.1 hread
    rw [ofByte_eq_some hr]
    exact .openResult r
  case h_3 hop =>
    obtain rfl : op = 0x82 := BitVec.eq_of_toNat_eq hop
    obtain ⟨b, rfl, hread⟩ := parseOperand_eq_ok h
    obtain ⟨wrOk, hw, rfl⟩ := Option.map_eq_some_iff.1 hread
    rw [boolOf_eq_some hw]
    exact .tick wrOk
  case h_4 hop =>
    obtain rfl : op = 0x83 := BitVec.eq_of_toNat_eq hop
    obtain ⟨b, rfl, hread⟩ := parseOperand_eq_ok h
    rw [← Option.some.inj hread]
    exact .rxByte b
  case h_5 => cases h

theorem decodeWord_of_isEventOf {w : OpWord} {i : Instr} (h : IsEventOf w i) : decodeWord w = .ok i := by
  cases h with
  | reset | rxByte b => rfl
  | openResult r => cases r <;> rfl
  | tick wrOk => cases wrOk <;> rfl

/-! ## The host words that are commands (R74) -/

theorem be32?_isSome (l : List Byte) : (be32? l).isSome = (l.length == 4) := by
  unfold be32?
  split
  case h_1 => rfl
  case h_2 hne =>
    match l with
    | [] | [_] | [_, _] | [_, _, _] => rfl
    | [a, b, c, d] => exact absurd rfl (hne a b c d)
    | _ :: _ :: _ :: _ :: _ :: _ => simp

theorem parseInit_isSome (n : Byte) (t : List Byte) : (parseInit (n :: t)).isSome = (t.length == n.toNat + 4) := by
  have hport : (t.drop n.toNat).length = t.length - n.toNat := List.length_drop
  by_cases hlen : t.length = n.toNat + 4
  · obtain ⟨baud, hbaud⟩ := Option.isSome_iff_exists.1
      ((be32?_isSome (t.drop n.toNat)).trans (by rw [hport, beq_iff_eq]; omega))
    simp [parseInit, hbaud, hlen]
  · simp [parseInit, hlen]

theorem parseSetAll_isSome (m : Byte) (t : List Byte) : (parseSetAll (m :: t)).isSome = (t.length == 4 * m.toNat) := by
  by_cases hlen : t.length = 4 * m.toNat <;> simp [parseSetAll, hlen]

theorem parseSetOne_isSome (args : List Byte) : (parseSetOne args).isSome = (args.length == 8) := by
  match args with
  | [] | [_] | [_, _] | [_, _, _] | [_, _, _, _] | [_, _, _, _, _] | [_, _, _, _, _, _] | [_, _, _, _, _, _, _]
  | [_, _, _, _, _, _, _, _] => rfl
  | _ :: _ :: _ :: _ :: _ :: _ :: _ :: _ :: _ :: _ => simp [parseSetOne]

theorem boolOf_isSome (b : Byte) : (boolOf b).isSome = decide (b.toNat < 2) := by
  revert b
  decide

theorem parseReg_isSome (mk : Bool → Token → Instr) (args : List Byte) :
    (parseReg mk args).isSome = (args.length == 5 && decide ((args.headD 2).toNat < 2)) := by
  match args with
  | [] | [_] | [_, _] | [_, _, _] | [_, _, _, _] => rfl
  | [p, a, b, c, d] => simp [parseReg, boolOf_isSome]
  | _ :: _ :: _ :: _ :: _ :: _ :: _ => simp [parseReg]

theorem parseNone_isSome (i : Instr) (args : List Byte) : (parseNone i args).isSome = args.isEmpty := by
  cases args <;> rfl

/-- A host word is a command exactly when its parser reads it: one case per opcode. -/
theorem legalHostWord_eq (op : Byte) (args : List Byte) : legalHostWord (op :: args) = (parseHost op args).isSome := by
  unfold parseHost
  split
  case h_1 hop =>
    cases args with
    | nil => simp [legalHostWord, hop, parseInit]
    | cons n t => simp [legalHostWord, hop, parseInit_isSome]
  case h_3 hop =>
    cases args with
    | nil => simp [legalHostWord, hop, parseSetAll]
    | cons m t => simp [legalHostWord, hop, parseSetAll_isSome]
  case h_4 hop => simp [legalHostWord, hop, parseSetOne_isSome]
  case h_2 hop | h_5 hop | h_6 hop | h_7 hop => simp [legalHostWord, hop, parseNone_isSome]
  case h_8 hop | h_9 hop | h_10 hop | h_11 hop => simp [legalHostWord, hop, parseReg_isSome]
  case h_12 =>
    unfold legalHostWord
    simp only [Option.isSome_none]

/-! ## The statements -/

/-- Settles O51: a host word is read by its parser, or is ILLEGAL. -/
theorem hostWordsAreNeverRefused : Obligations.HostWordsAreNeverRefused := by
  intro w hhost
  match w with
  | op :: args =>
    have hop : op.msb = false := by simpa [isHostWord] using hhost
    rw [legalHostWord_eq]
    refine ⟨fun h => decodeWord_illegal hop (by simpa using h), fun h => ?_⟩
    obtain ⟨i, hi⟩ := Option.isSome_iff_exists.1 h
    exact ⟨i, decodeWord_host hop hi, (encodes_of_parseHost Cfg.test hi).command _⟩

/-- Settles O52: the list is that of the event words. -/
theorem eventWordsOutsideTheListAreRefused : Obligations.EventWordsOutsideTheListAreRefused := by
  intro op args hop
  constructor
  · rintro ⟨i, hi⟩
    rw [decodeWord_event args hop] at hi
    generalize hw : op :: args = w
    cases hw ▸ isEventOf_of_parseEvent hi with
    | reset => simp
    | openResult r => cases r <;> simp [OpenResult.byte]
    | tick wrOk => cases wrOk <;> simp [boolByte]
    | rxByte b => exact .inr ⟨b, rfl⟩
  · rintro (hlisted | ⟨b, hb⟩)
    · simp only [List.mem_cons, List.not_mem_nil, or_false] at hlisted
      rcases hlisted with h | h | h | h | h | h <;> rw [h]
      · exact ⟨_, decodeWord_of_isEventOf .reset⟩
      · exact ⟨_, decodeWord_of_isEventOf (.openResult .up)⟩
      · exact ⟨_, decodeWord_of_isEventOf (.openResult .deviceUnavailable)⟩
      · exact ⟨_, decodeWord_of_isEventOf (.openResult .configError)⟩
      · exact ⟨_, decodeWord_of_isEventOf (.tick false)⟩
      · exact ⟨_, decodeWord_of_isEventOf (.tick true)⟩
    · rw [hb]
      exact ⟨_, decodeWord_of_isEventOf (.rxByte b)⟩

/-- Settles O48: each command by what its parser reads, each event word by its list, ILLEGAL because no parser reads it. -/
theorem operationsDecodeFromTheirWords : Obligations.OperationsDecodeFromTheirWords := by
  intro cfg i hop hwf
  cases i with
  | init port baud => exact decodeWord_host rfl (parseInit_iff.2 ⟨port, baud, rfl, of_decide_eq_true hwf, rfl⟩)
  | setAll vs => exact decodeWord_host rfl (parseSetAll_iff.2 ⟨vs, rfl, of_decide_eq_true hwf, rfl⟩)
  | setOne index value => exact decodeWord_host rfl (parseSetOne_iff.2 ⟨index, value, rfl, rfl⟩)
  | close | arm | disarm | isActive => exact decodeWord_host rfl (parseNone_iff.2 ⟨rfl, rfl⟩)
  | regLinkstats p t | regBattery p t | regGps p t | regAttitude p t =>
    exact decodeWord_host rfl (parseReg_iff.2 ⟨p, t, rfl, rfl⟩)
  | reset => exact decodeWord_of_isEventOf .reset
  | openResult r => exact decodeWord_of_isEventOf (.openResult r)
  | tick wrOk => exact decodeWord_of_isEventOf (.tick wrOk)
  | rxByte b => exact decodeWord_of_isEventOf (.rxByte b)
  | illegal w =>
    obtain ⟨hhost, hillegal⟩ := Bool.and_eq_true_iff.1 hwf
    exact (hostWordsAreNeverRefused w hhost).1 (by simpa using hillegal)
  | frameRcChannels _ | frameGps _ _ _ _ _ _ _ | frameBattery _ _ _ _ _ | frameLinkstats _ _ _ _ _
  | frameAttitude _ _ _ _ | frameUnknown _ _ => cases hop

/-- Settles O49: the inversion of the parsers. -/
theorem decodedWordsAreTheirEncodings : Obligations.DecodedWordsAreTheirEncodings := by
  intro cfg w i h
  match w with
  | op :: args =>
    by_cases hop : op.msb = true
    case pos =>
      rw [decodeWord_event args hop] at h
      generalize hw : op :: args = w
      cases hw ▸ isEventOf_of_parseEvent h <;> exact ⟨rfl, rfl, rfl⟩
    case neg =>
      have hop := eq_false_of_ne_true hop
      cases hparse : parseHost op args with
      | some j =>
        obtain rfl := Except.ok.inj ((decodeWord_host hop hparse).symm.trans h)
        obtain ⟨hword, hwf, hoperation, -⟩ := encodes_of_parseHost cfg hparse
        exact ⟨hword, hwf, hoperation⟩
      | none =>
        obtain rfl := Except.ok.inj ((decodeWord_illegal hop hparse).symm.trans h)
        have hillegal : legalHostWord (op :: args) = false := by rw [legalHostWord_eq, hparse]; rfl
        exact ⟨rfl, by simp [Instr.wf, isHostWord, hop, hillegal], rfl⟩

/-- Settles O53: the eight words, decoded. -/
theorem wordsOfTheSpecDecode : Obligations.WordsOfTheSpecDecode :=
  ⟨rfl, rfl, rfl, rfl, rfl, rfl, rfl, rfl⟩

end Sys2Proof.Proofs.OperationWords
end

section
/-! PROOFS. The six frame rows (R67 to R73): which row a type byte and its data belong to, what each delivers when it arrives, and that a frame is decoded from its bytes. -/

namespace Sys2Proof.Proofs.FrameRows

open Sys2Proof.Machine Sys2Proof.Proofs.ReceiveParser Sys2Proof.Proofs.Codec
open Sys2Proof.Proofs.FrameArrival

/-! ## Telling the rows apart by their type bytes (R68) -/

/-- The type bytes of a well-formed configuration, pair by pair in the order in which Classify tests them. -/
theorem type_ne {cfg : Cfg} (hwf : cfg.wf = true) :
    (cfg.typeBattery ≠ cfg.typeLinkstats) ∧
    (cfg.typeGps ≠ cfg.typeLinkstats ∧ cfg.typeGps ≠ cfg.typeBattery) ∧
    (cfg.typeAttitude ≠ cfg.typeLinkstats ∧ cfg.typeAttitude ≠ cfg.typeBattery ∧ cfg.typeAttitude ≠ cfg.typeGps) ∧
    (cfg.typeRc ≠ cfg.typeLinkstats ∧ cfg.typeRc ≠ cfg.typeBattery ∧ cfg.typeRc ≠ cfg.typeGps ∧
      cfg.typeRc ≠ cfg.typeAttitude) := by
  have h := Cfg_wf_types hwf
  simp only [List.nodup_cons, List.mem_cons, List.not_mem_nil, or_false, not_or] at h
  obtain ⟨⟨hrg, hrb, hrl, hra⟩, ⟨hgb, hgl, hga⟩, ⟨hbl, hba⟩, hla, -⟩ := h
  exact ⟨hbl, ⟨hgl, hgb⟩, ⟨Ne.symm hla, Ne.symm hba, Ne.symm hga⟩, hrl, hrb, hrg, hra⟩

section Rows

variable {cfg : Cfg} {d : List Byte}

theorem classify_linkstats (h : cfg.minLinkstats ≤ d.length) :
    classify cfg cfg.typeLinkstats d = some (.linkstats, decodeLinkStats d) := if_pos ⟨rfl, h⟩

theorem classify_battery (hwf : cfg.wf = true) (h : cfg.minBattery ≤ d.length) :
    classify cfg cfg.typeBattery d = some (.battery, decodeBattery d) := by
  obtain ⟨hl, -⟩ := type_ne hwf
  rw [classify, if_neg fun hc => hl hc.1, if_pos ⟨rfl, h⟩]

theorem classify_gps (hwf : cfg.wf = true) (h : cfg.minGps ≤ d.length) :
    classify cfg cfg.typeGps d = some (.gps, decodeGps d) := by
  obtain ⟨-, ⟨hl, hb⟩, -⟩ := type_ne hwf
  rw [classify, if_neg fun hc => hl hc.1, if_neg fun hc => hb hc.1, if_pos ⟨rfl, h⟩]

theorem classify_attitude (hwf : cfg.wf = true) (h : cfg.minAttitude ≤ d.length) :
    classify cfg cfg.typeAttitude d = some (.attitude, decodeAttitude d) := by
  obtain ⟨-, -, ⟨hl, hb, hg⟩, -⟩ := type_ne hwf
  rw [classify, if_neg fun hc => hl hc.1, if_neg fun hc => hb hc.1, if_neg fun hc => hg hc.1, if_pos ⟨rfl, h⟩]

theorem classify_rc (hwf : cfg.wf = true) : classify cfg cfg.typeRc d = none := by
  obtain ⟨-, -, -, hl, hb, hg, ha⟩ := type_ne hwf
  rw [classify, if_neg fun hc => hl hc.1, if_neg fun hc => hb hc.1, if_neg fun hc => hg hc.1, if_neg fun hc => ha hc.1]

theorem classify_unknown {ty : Byte} (h : cfg.unknownFrame ty d.length = true) : classify cfg ty d = none := by
  obtain ⟨hl, hb, hg, ha, -⟩ := of_decide_eq_true h
  rw [classify, if_neg hl, if_neg hb, if_neg hg, if_neg ha]

end Rows

/-! ## The records of the rows (R99 to R102) -/

theorem decodeLinkStats_data (r1 r2 lq snr : Byte) (rest : List Byte) :
    decodeLinkStats (linkstatsData r1 r2 lq snr rest) = .linkStats r1.toInt r2.toInt lq.toNat snr.toInt := rfl

theorem decodeBattery_data (v c : BitVec 16) (u : BitVec 24) (r : Byte) (rest : List Byte) :
    decodeBattery (batteryData v c u r rest) = .battery v.toNat c.toNat r.toNat := by
  simp [decodeBattery, batteryData, bytes16, bytes24]

theorem decodeGps_data (lat lon : BitVec 32) (g h a : BitVec 16) (n : Byte) (rest : List Byte) :
    decodeGps (gpsData lat lon g h a n rest) = .gps lat.toInt lon.toInt ((a.toNat : Int) - 1000) n.toNat g.toNat := by
  simp [decodeGps, gpsData, bytes16, bytes32]

theorem decodeAttitude_data (p r y : BitVec 16) (rest : List Byte) :
    decodeAttitude (attitudeData p r y rest) = .attitude p.toInt r.toInt y.toInt := by
  simp [decodeAttitude, attitudeData, bytes16]

/-! ## The arrival of a row in an empty buffer -/

/-- The instruction is a frame row of this type byte and data, arriving in ACTIVE on an empty buffer that has room for it. -/
structure Arrives (i : Instr) (s : State) (ty : Byte) (data : List Byte) : Prop where
  operation : i.isOperation = false
  row : encode s.cfg i = inboundFrame s.cfg ty data
  wf : s.cfg.wf = true
  active : s.lstate = .active
  empty : s.rxbuf = []
  legal : s.cfg.frameLenOk data.length = true
  room : data.length + 4 ≤ s.cfg.rxBufMax

/-- The state at the start of the step with the frame counted, before it is classified. -/
def counted (s : State) : State := { s with rxAge := 0, cntRxvalid := satInc s.cfg.cntBits s.cntRxvalid, outs := [] }

/-- The output of a delivered record: the event of a registered handler. -/
def eventsOf (k : Kind) (r : Record) : Option Token → List OutEvent
  | some token => [.tlm k token r]
  | none => []

theorem exec_of_arrives {i : Instr} {s : State} {ty : Byte} {data : List Byte} (h : Arrives i s ty data) :
    exec i s = .next ((counted s).deliver ty data) := by
  rw [exec_frame h.operation, h.row]
  exact congrArg Host.Outcome.next (receiveAll_inboundFrame (s := s.begin) h.wf h.active h.empty ty h.legal h.room)

theorem exec_of_arrives_record {i : Instr} {s : State} {ty : Byte} {data : List Byte} {k : Kind} {r : Record}
    (h : Arrives i s ty data) (hclass : classify s.cfg ty data = some (k, r)) :
    exec i s = .next { counted s with outs := eventsOf k r (s.slots.get k) } := by
  have hevents : eventsOf k r (s.slots.get k) = ((s.slots.get k).map (.tlm k · r)).toList := by
    cases s.slots.get k <;> rfl
  rw [exec_of_arrives h, deliver_record (s := counted s) hclass, dispatch_eq, hevents]
  rfl

theorem exec_of_arrives_ignored {i : Instr} {s : State} {ty : Byte} {data : List Byte} (h : Arrives i s ty data)
    (hclass : classify s.cfg ty data = none) :
    exec i s = .next { counted s with cntIgnored := satInc s.cfg.cntBits s.cntIgnored } := by
  rw [exec_of_arrives h, deliver_ignored (s := counted s) hclass]
  rfl

/-- Settles O36: the row of TYPE_LINKSTATS, with the record of its data. -/
theorem linkstatsFrameIsDelivered : Obligations.LinkstatsFrameIsDelivered := by
  intro rssi1 rssi2 lq snr rest s hwf hl hempty hrow hcap
  obtain ⟨hmin, hlegal⟩ := Bool.and_eq_true_iff.1 hrow
  rw [← linkstatsData_length rssi1 rssi2 lq snr rest] at hmin hlegal
  have hclass := classify_linkstats (of_decide_eq_true hmin)
  rw [decodeLinkStats_data] at hclass
  exact exec_of_arrives_record
    ⟨rfl, rfl, hwf, hl, hempty, hlegal, by rw [linkstatsData_length]; omega⟩ hclass

/-- Settles O37: the row of TYPE_BATTERY, with the record of its data. -/
theorem batteryFrameIsDelivered : Obligations.BatteryFrameIsDelivered := by
  intro voltage current capacity remaining rest s hwf hl hempty hrow hcap
  obtain ⟨hmin, hlegal⟩ := Bool.and_eq_true_iff.1 hrow
  rw [← batteryData_length voltage current capacity remaining rest] at hmin hlegal
  have hclass := classify_battery hwf (of_decide_eq_true hmin)
  rw [decodeBattery_data] at hclass
  exact exec_of_arrives_record
    ⟨rfl, rfl, hwf, hl, hempty, hlegal, by rw [batteryData_length]; omega⟩ hclass

/-- Settles O38: the row of TYPE_GPS, with the record of its data. -/
theorem gpsFrameIsDelivered : Obligations.GpsFrameIsDelivered := by
  intro lat lon gspd heading alt sats rest s hwf hl hempty hrow hcap
  obtain ⟨hmin, hlegal⟩ := Bool.and_eq_true_iff.1 hrow
  rw [← gpsData_length lat lon gspd heading alt sats rest] at hmin hlegal
  have hclass := classify_gps hwf (of_decide_eq_true hmin)
  rw [decodeGps_data] at hclass
  exact exec_of_arrives_record
    ⟨rfl, rfl, hwf, hl, hempty, hlegal, by rw [gpsData_length]; omega⟩ hclass

/-- Settles O39: the row of TYPE_ATTITUDE, with the record of its data. -/
theorem attitudeFrameIsDelivered : Obligations.AttitudeFrameIsDelivered := by
  intro pitch roll yaw rest s hwf hl hempty hrow hcap
  obtain ⟨hmin, hlegal⟩ := Bool.and_eq_true_iff.1 hrow
  rw [← attitudeData_length pitch roll yaw rest] at hmin hlegal
  have hclass := classify_attitude hwf (of_decide_eq_true hmin)
  rw [decodeAttitude_data] at hclass
  exact exec_of_arrives_record
    ⟨rfl, rfl, hwf, hl, hempty, hlegal, by rw [attitudeData_length]; omega⟩ hclass

/-- Settles O40: neither row has a record. -/
theorem unknownFramesAreIgnored : Obligations.UnknownFramesAreIgnored := by
  intro i s hwf hl hempty hi hrow hcap
  rcases hi with ⟨ty, data, rfl⟩ | ⟨ch, rfl⟩
  · obtain ⟨hunknown, hlegal⟩ := Bool.and_eq_true_iff.1 hrow
    have hroom : data.length + 4 ≤ s.cfg.rxBufMax := (encodeFrame_length _ _ _ _).ge.trans hcap
    exact exec_of_arrives_ignored ⟨rfl, rfl, hwf, hl, hempty, hlegal, hroom⟩ (classify_unknown hunknown)
  · obtain ⟨-, hlegal⟩ := Bool.and_eq_true_iff.1 hrow
    rw [← packChannels_length s.cfg ch] at hlegal
    have hroom : (packChannels s.cfg ch).length + 4 ≤ s.cfg.rxBufMax := (encodeFrame_length _ _ _ _).ge.trans hcap
    exact exec_of_arrives_ignored ⟨rfl, rfl, hwf, hl, hempty, hlegal, hroom⟩ (classify_rc hwf)

/-! ## Decoding a frame from its bytes -/

/-- The decoder finds the type byte and the data in an encoded frame. -/
theorem decodeFrame_inboundFrame {cfg : Cfg} (hwf : cfg.wf = true) (ty : Byte) {data : List Byte}
    (h : cfg.frameLenOk data.length = true) : decodeFrame cfg (inboundFrame cfg ty data) = some (frameOf cfg ty data) := by
  have hvalid := frameAt_inboundFrame hwf ty [] h
  rw [List.append_nil] at hvalid
  have hlen : (inboundFrame cfg ty data).length = data.length + 2 + 2 := encodeFrame_length _ _ _ _
  have hty : (inboundFrame cfg ty data).getD 2 0 = ty := rfl
  have hdata : ((inboundFrame cfg ty data).drop 3).take (data.length + 2 - 2) = data := by
    rw [inboundFrame_eq]; simp
  simp only [decodeFrame, hvalid, hlen, hty, hdata, if_true]

section Rows

variable {cfg : Cfg}

theorem frameOf_linkstats (r1 r2 lq snr : Byte) (rest : List Byte)
    (h : cfg.minLinkstats ≤ (linkstatsData r1 r2 lq snr rest).length) :
    frameOf cfg cfg.typeLinkstats (linkstatsData r1 r2 lq snr rest) = .frameLinkstats r1 r2 lq snr rest := by
  unfold frameOf
  rw [if_pos ⟨rfl, h⟩]
  rfl

theorem frameOf_battery (hwf : cfg.wf = true) (v c : BitVec 16) (u : BitVec 24) (r : Byte) (rest : List Byte)
    (h : cfg.minBattery ≤ (batteryData v c u r rest).length) :
    frameOf cfg cfg.typeBattery (batteryData v c u r rest) = .frameBattery v c u r rest := by
  obtain ⟨hl, -⟩ := type_ne hwf
  unfold frameOf
  rw [if_neg fun hc => hl hc.1, if_pos ⟨rfl, h⟩]
  simp [batteryData, bytes16, bytes24]

theorem frameOf_gps (hwf : cfg.wf = true) (lat lon : BitVec 32) (g hd a : BitVec 16) (n : Byte) (rest : List Byte)
    (h : cfg.minGps ≤ (gpsData lat lon g hd a n rest).length) :
    frameOf cfg cfg.typeGps (gpsData lat lon g hd a n rest) = .frameGps lat lon g hd a n rest := by
  obtain ⟨-, ⟨hl, hb⟩, -⟩ := type_ne hwf
  unfold frameOf
  rw [if_neg fun hc => hl hc.1, if_neg fun hc => hb hc.1, if_pos ⟨rfl, h⟩]
  simp [gpsData, bytes16, bytes32]

theorem frameOf_attitude (hwf : cfg.wf = true) (p r y : BitVec 16) (rest : List Byte)
    (h : cfg.minAttitude ≤ (attitudeData p r y rest).length) :
    frameOf cfg cfg.typeAttitude (attitudeData p r y rest) = .frameAttitude p r y rest := by
  obtain ⟨-, -, ⟨hl, hb, hg⟩, -⟩ := type_ne hwf
  unfold frameOf
  rw [if_neg fun hc => hl hc.1, if_neg fun hc => hb hc.1, if_neg fun hc => hg hc.1, if_pos ⟨rfl, h⟩]
  simp [attitudeData, bytes16]

theorem frameOf_rc (hwf : cfg.wf = true) {ch : List Nat} (hlen : ch.length = 16) (hch : ∀ c ∈ ch, c < 2 ^ cfg.chBits) :
    frameOf cfg cfg.typeRc (packChannels cfg ch) = .frameRcChannels ch := by
  obtain ⟨-, -, -, hl, hb, hg, ha⟩ := type_ne hwf
  unfold frameOf
  rw [if_neg fun hc => hl hc.1, if_neg fun hc => hb hc.1, if_neg fun hc => hg hc.1, if_neg fun hc => ha hc.1,
    if_pos ⟨rfl, packChannels_length cfg ch⟩, unpackChannels_packChannels hwf hlen hch]

theorem frameOf_unknown {ty : Byte} {data : List Byte} (h : cfg.unknownFrame ty data.length = true) :
    frameOf cfg ty data = .frameUnknown ty data := by
  obtain ⟨hl, hb, hg, ha, hrc⟩ := of_decide_eq_true h
  unfold frameOf
  rw [if_neg hl, if_neg hb, if_neg hg, if_neg ha, if_neg hrc]

end Rows

/-- Settles O50: one case per frame row. -/
theorem framesDecodeFromTheirBytes : Obligations.FramesDecodeFromTheirBytes := by
  intro cfg i hwf hi hrow
  cases i with
  | frameLinkstats r1 r2 lq snr rest =>
    obtain ⟨hmin, hlegal⟩ := Bool.and_eq_true_iff.1 hrow
    rw [← linkstatsData_length r1 r2 lq snr rest] at hmin hlegal
    rw [encode, decodeFrame_inboundFrame hwf _ hlegal, frameOf_linkstats _ _ _ _ _ (of_decide_eq_true hmin)]
  | frameBattery v c u r rest =>
    obtain ⟨hmin, hlegal⟩ := Bool.and_eq_true_iff.1 hrow
    rw [← batteryData_length v c u r rest] at hmin hlegal
    rw [encode, decodeFrame_inboundFrame hwf _ hlegal, frameOf_battery hwf _ _ _ _ _ (of_decide_eq_true hmin)]
  | frameGps lat lon g hd a n rest =>
    obtain ⟨hmin, hlegal⟩ := Bool.and_eq_true_iff.1 hrow
    rw [← gpsData_length lat lon g hd a n rest] at hmin hlegal
    rw [encode, decodeFrame_inboundFrame hwf _ hlegal, frameOf_gps hwf _ _ _ _ _ _ _ (of_decide_eq_true hmin)]
  | frameAttitude p r y rest =>
    obtain ⟨hmin, hlegal⟩ := Bool.and_eq_true_iff.1 hrow
    rw [← attitudeData_length p r y rest] at hmin hlegal
    rw [encode, decodeFrame_inboundFrame hwf _ hlegal, frameOf_attitude hwf _ _ _ _ (of_decide_eq_true hmin)]
  | frameRcChannels ch =>
    obtain ⟨hnch, -⟩ := Cfg_wf_facts hwf
    obtain ⟨hch, hlegal⟩ := Bool.and_eq_true_iff.1 hrow
    obtain ⟨hlen, hall⟩ := Bool.and_eq_true_iff.1 hch
    rw [← packChannels_length cfg ch] at hlegal
    rw [encode, decodeFrame_inboundFrame hwf _ hlegal,
      frameOf_rc hwf ((of_decide_eq_true hlen).trans hnch) fun c hc => of_decide_eq_true (List.all_eq_true.1 hall c hc)]
  | frameUnknown ty data =>
    obtain ⟨hunknown, hlegal⟩ := Bool.and_eq_true_iff.1 hrow
    rw [encode, decodeFrame_inboundFrame hwf _ hlegal, frameOf_unknown hunknown]
  | _ => cases hi

end Sys2Proof.Proofs.FrameRows
end
